-- ==== Sys2Proof/Word.lean ====
section
/-! DEFINITION. The bit vectors of the FANCTL block. The block has no memory and no address bus
(spec/20_memory.md R70), so the only words are the port byte and the four-bit raw input code;
counters are natural numbers (spec/00_scope.md R10, R11) and are wrapped where they are incremented; so are the state codes
(R40), whose width `STATE_W` is a parameter (R8): a state register is read as the number of its `STATE_W` bits. -/

namespace Sys2Proof

/-- A byte: a port value, an output word (R13: bit 0 is the least significant bit). -/
abbrev Byte := BitVec 8

/-- The four significant bits of the raw input (R25, R101). -/
abbrev Nibble := BitVec 4

end Sys2Proof
end

