-- ==== Sys2Proof/Config.lean ====
section
/-! DEFINITION. The implementation parameters of spec/00_scope.md R8. Every parameter that the spec gives
a value is a field of `Config`, and the machine takes the configuration as an argument (the field `cfg` of the
machine's state), so that a statement about every state is a statement about every configuration;
`Config.decided` holds the values of R8. The one parameter that R8 leaves OPEN (D4) has no body. -/

namespace Sys2Proof

/-- `NTASK` of R8: the number of tasks, DOC0's value. -/
abbrev NTASK : Nat := 5

/-- `NSPEED` of R8: the number of speed levels, DOC0's value. -/
abbrev NSPEED : Nat := 4

/-- The five tasks of R130, fixed at build time, in task order 0 to 4. -/
inductive Task where
  /-- task 0, the Input Interpreter -/
  | inp
  /-- task 1, the Motor Duty FSM -/
  | mot
  /-- task 2, the Oscillator FSM -/
  | osc
  /-- task 3, the Display Animation FSM -/
  | disp
  /-- task 4, the Output Composer FSM -/
  | out
  deriving DecidableEq, Repr

/-- One value for each task, in task order (`PERIOD[0..4]`, `elapsed[0..4]`). -/
structure PerTask (α : Type) where
  inp : α
  mot : α
  osc : α
  disp : α
  out : α
  deriving DecidableEq, Repr

/-- `x[i]` of R14 for a table indexed by tasks. -/
def PerTask.get {α : Type} (p : PerTask α) : Task → α
  | .inp => p.inp
  | .mot => p.mot
  | .osc => p.osc
  | .disp => p.disp
  | .out => p.out

/-- `x[i] <- v` of R14 for a table indexed by tasks. -/
def PerTask.set {α : Type} (p : PerTask α) (t : Task) (v : α) : PerTask α :=
  match t with
  | .inp => { p with inp := v }
  | .mot => { p with mot := v }
  | .osc => { p with osc := v }
  | .disp => { p with disp := v }
  | .out => { p with out := v }

/-- The same function applied to the value of every task. -/
def PerTask.map {α β : Type} (f : α → β) (p : PerTask α) : PerTask β :=
  ⟨f p.inp, f p.mot, f p.osc, f p.disp, f p.out⟩

/-- The four entries of `SPEED_DUTY_TABLE` (R51): a constant table, not state of the block. -/
structure DutyTable where
  d0 : Nat
  d1 : Nat
  d2 : Nat
  d3 : Nat
  deriving DecidableEq, Repr

/-- `SPEED_DUTY_TABLE[i]` (R75). The index is of type `Fin NSPEED`, so an index out of range cannot be
written (spec/93_implementation_defined.md U3 names this treatment). -/
def DutyTable.get (d : DutyTable) : Fin NSPEED → Nat
  | 0 => d.d0
  | 1 => d.d1
  | 2 => d.d2
  | 3 => d.d3

/-- The parameters of R8. `NTASK` and `NSPEED`, whose values are DOC0's, are fixed (log entry 18); the others are fields,
named after R8. -/
structure Config where
  /-- `PERIOD[0..4]`, in ticks -/
  period : PerTask Nat
  /-- `SPEED_DUTY_TABLE[0..3]` -/
  dutyTable : DutyTable
  /-- `DUTY_LOW_THRESHOLD` -/
  dutyLowThreshold : Nat
  /-- `SWEEP_L_LIMIT` -/
  sweepLLimit : Nat
  /-- `DWELL_LIMIT` -/
  dwellLimit : Nat
  /-- `SWEEP_R_LIMIT` -/
  sweepRLimit : Nat
  /-- `DWELL2_LIMIT` -/
  dwell2Limit : Nat
  /-- `PULSE_PERIOD` -/
  pulsePeriod : Nat
  /-- `WIDTH_LEFT` -/
  widthLeft : Nat
  /-- `WIDTH_RIGHT` -/
  widthRight : Nat
  /-- `CODE_IDLE` -/
  codeIdle : Nibble
  /-- `CODE_POWER` -/
  codePower : Nibble
  /-- `CODE_SPEED` -/
  codeSpeed : Nibble
  /-- `CODE_OSC` -/
  codeOsc : Nibble
  /-- `CODE_TEMP` -/
  codeTemp : Nibble
  /-- `DIR_CODE` -/
  dirCode : Nat
  /-- `STATE_W` -/
  stateW : Nat
  /-- `ELAPSED_W` -/
  elapsedW : Nat
  /-- `DUTYCTR_W` -/
  dutyCtrW : Nat
  /-- `PHASE_W` -/
  phaseW : Nat
  /-- `PULSECTR_W` -/
  pulseCtrW : Nat
  deriving DecidableEq, Repr

/-- The values of R8: DOC0's where the source gives one, else the spec's decided default. -/
def Config.decided : Config where
  period := ⟨100, 1, 1, 500, 1⟩
  dutyTable := ⟨11, 40, 70, 100⟩
  dutyLowThreshold := 5
  sweepLLimit := 100
  dwellLimit := 1000
  sweepRLimit := 1100
  dwell2Limit := 0
  pulsePeriod := 20
  widthLeft := 1
  widthRight := 2
  codeIdle := 0x0#4
  codePower := 0x1#4
  codeSpeed := 0x2#4
  codeOsc := 0x4#4
  codeTemp := 0x8#4
  dirCode := 0b01
  stateW := 8
  elapsedW := 16
  dutyCtrW := 8
  phaseW := 16
  pulseCtrW := 8

/-- `TICK_PERIOD_UNITS` of R8, which the spec leaves OPEN (spec/92_eei_decisions.md D4): a free value with no body.
Only the boot operation `configure` (R273) passes it on, and no rule reads it. -/
opaque Config.tickPeriodUnits : Nat

end Sys2Proof
end

