-- ==== Sys2Proof/Syntax.lean ====
section
/-! DEFINITION. The names of spec/opcode_table.json: one constructor of `Instr` for each of its 28 rows
(spec/30_encoding.md R118), and the enumerations those rows are made of. The block executes no program text
(R116): an "instruction" is an input code, a step of one FSM, the tick transaction, or the output word. -/

namespace Sys2Proof

/-- The five input codes of R102. -/
inductive InputCode where
  | idle
  | power
  | speed
  | osc
  | temp
  deriving DecidableEq, Repr

/-- The recognised states of the Input Interpreter (R104). -/
inductive InState where
  | start
  | wait
  | off
  | on
  | setSpeed
  | toggleTemperatureMode
  | toggleOscillation
  | press
  deriving DecidableEq, Repr

/-- The recognised states of the Motor Duty FSM (R105). -/
inductive MotState where
  | start
  | off
  | on
  deriving DecidableEq, Repr

/-- The recognised states of the Oscillator FSM (R106). -/
inductive OscState where
  | start
  | off
  | sweepLeft
  | dwell
  | sweepRight
  deriving DecidableEq, Repr

/-- The recognised states of the Display Animation FSM (R107). -/
inductive DispState where
  | start
  | dwell
  | output
  deriving DecidableEq, Repr

/-- The recognised states of the Output Composer FSM (R108). -/
inductive OutState where
  | start
  | output
  deriving DecidableEq, Repr

/-- The formats of R100, with the pseudo-format `EVENT` of R118. For `STATE8` the FSM is part of the
selection, since the same code means different states in different FSMs (R118). -/
inductive Format where
  /-- `RAWIN4`: the four bits of `rawInput` -/
  | rawin4
  /-- `STATE8`: the state register of the FSM of this task -/
  | state8 (t : Task)
  /-- `EVENT`: selected by `tickFlag = 1` -/
  | event
  /-- `OUT8`: the composite output word -/
  | out8
  deriving DecidableEq, Repr

/-- One constructor per row of spec/opcode_table.json. `X.Sn` is "the step of FSM X whose current state is Sn"
(R116). An input code stands for the Input Interpreter step that samples it (R151, R155). `outword` carries
the fields of the row's pattern `00ddmsop` (R109). -/
inductive Instr where
  /-- `IDLE` -/
  | idle
  /-- `POWER` -/
  | power
  /-- `SPEED` -/
  | speed
  /-- `OSC` -/
  | osc
  /-- `TEMP` -/
  | temp
  /-- `IN.Start` -/
  | inStart
  /-- `IN.Wait` -/
  | inWait
  /-- `IN.Off` -/
  | inOff
  /-- `IN.On` -/
  | inOn
  /-- `IN.SetSpeed` -/
  | inSetSpeed
  /-- `IN.ToggleTemperatureMode` -/
  | inToggleTemperatureMode
  /-- `IN.ToggleOscillation` -/
  | inToggleOscillation
  /-- `IN.Press` -/
  | inPress
  /-- `MOT.Start` -/
  | motStart
  /-- `MOT.Off` -/
  | motOff
  /-- `MOT.On` -/
  | motOn
  /-- `OSC.Start` -/
  | oscStart
  /-- `OSC.Off` -/
  | oscOff
  /-- `OSC.SweepLeft` -/
  | oscSweepLeft
  /-- `OSC.Dwell` -/
  | oscDwell
  /-- `OSC.SweepRight` -/
  | oscSweepRight
  /-- `DISP.Start` -/
  | dispStart
  /-- `DISP.Dwell` -/
  | dispDwell
  /-- `DISP.Output` -/
  | dispOutput
  /-- `OUT.Start` -/
  | outStart
  /-- `OUT.Output` -/
  | outOutput
  /-- `SCHED.Tick` -/
  | schedTick
  /-- `OUTWORD`: `dir` is bits 5:4, `m` bit 3, `s` bit 2, `o` bit 1, `p` bit 0 -/
  | outword (dir : Nat) (m s o p : Bool)
  deriving DecidableEq, Repr

end Sys2Proof
end

