-- ==== Sys2Proof/WellFormed.lean ====
section
/-! DEFINITION. Well-formed configurations (spec/00_scope.md R9, clauses (a) to (h), one check each, and a
clause for `STATE_W`, to which R9 sets no bound) and
well-formed instructions. -/

namespace Sys2Proof

/-- R9 (a): `1 <= PERIOD[i] <= 2^ELAPSED_W - 1` for every task. -/
abbrev Config.WfPeriods (c : Config) : Prop :=
  (1 ≤ c.period.inp ∧ c.period.inp ≤ 2 ^ c.elapsedW - 1) ∧
  (1 ≤ c.period.mot ∧ c.period.mot ≤ 2 ^ c.elapsedW - 1) ∧
  (1 ≤ c.period.osc ∧ c.period.osc ≤ 2 ^ c.elapsedW - 1) ∧
  (1 ≤ c.period.disp ∧ c.period.disp ≤ 2 ^ c.elapsedW - 1) ∧
  (1 ≤ c.period.out ∧ c.period.out ≤ 2 ^ c.elapsedW - 1)

/-- R9 (b): the duty table is strictly increasing and its last entry plus one fits `DUTYCTR_W`. -/
abbrev Config.WfDutyTable (c : Config) : Prop :=
  c.dutyTable.d0 < c.dutyTable.d1 ∧ c.dutyTable.d1 < c.dutyTable.d2 ∧ c.dutyTable.d2 < c.dutyTable.d3 ∧
  c.dutyTable.d3 + 1 ≤ 2 ^ c.dutyCtrW - 1

/-- R9 (c): `1 <= DUTY_LOW_THRESHOLD <= SPEED_DUTY_TABLE[0]`. -/
abbrev Config.WfThreshold (c : Config) : Prop :=
  1 ≤ c.dutyLowThreshold ∧ c.dutyLowThreshold ≤ c.dutyTable.d0

/-- R9 (d): `0 <= WIDTH_LEFT < WIDTH_RIGHT < PULSE_PERIOD`. -/
abbrev Config.WfWidths (c : Config) : Prop :=
  c.widthLeft < c.widthRight ∧ c.widthRight < c.pulsePeriod

/-- R9 (e): `0 <= DWELL2_LIMIT < SWEEP_L_LIMIT < DWELL_LIMIT < SWEEP_R_LIMIT`, and the last plus one fits
`PHASE_W`. -/
abbrev Config.WfLimits (c : Config) : Prop :=
  c.dwell2Limit < c.sweepLLimit ∧ c.sweepLLimit < c.dwellLimit ∧ c.dwellLimit < c.sweepRLimit ∧
  c.sweepRLimit + 1 ≤ 2 ^ c.phaseW - 1

/-- R9 (f): the five input codes are pairwise different and the idle code is 0. -/
abbrev Config.WfCodes (c : Config) : Prop :=
  c.codeIdle = 0#4 ∧
  c.codeIdle ≠ c.codePower ∧ c.codeIdle ≠ c.codeSpeed ∧ c.codeIdle ≠ c.codeOsc ∧ c.codeIdle ≠ c.codeTemp ∧
  c.codePower ≠ c.codeSpeed ∧ c.codePower ≠ c.codeOsc ∧ c.codePower ≠ c.codeTemp ∧
  c.codeSpeed ≠ c.codeOsc ∧ c.codeSpeed ≠ c.codeTemp ∧ c.codeOsc ≠ c.codeTemp

/-- R9 (g): `0 <= DIR_CODE <= 3`. -/
abbrev Config.WfDirection (c : Config) : Prop :=
  c.dirCode ≤ 3

/-- R9 (h): `PULSE_PERIOD <= 2^PULSECTR_W - 1`. -/
abbrev Config.WfPulsePeriod (c : Config) : Prop :=
  c.pulsePeriod ≤ 2 ^ c.pulseCtrW - 1

/-- Every code of R104 to R108 fits a state register: the largest is 0x07. R9 sets no bound to `STATE_W`, and a narrower
register cannot hold the codes (DESIGN CHOICE, log entry 21). -/
abbrev Config.WfStateWidth (c : Config) : Prop :=
  0x07 < 2 ^ c.stateW

/-- R9: a configuration is well-formed when all of (a) to (h) hold, and the state codes fit their registers. -/
abbrev Config.WellFormed (c : Config) : Prop :=
  c.WfPeriods ∧ c.WfDutyTable ∧ c.WfThreshold ∧ c.WfWidths ∧ c.WfLimits ∧ c.WfCodes ∧ c.WfDirection ∧
  c.WfPulsePeriod ∧ c.WfStateWidth

/-- An instruction is well-formed when its operands fit their fields: only `OUTWORD` has operands, and its
direction field is the two bits 5:4 (R109). -/
def Instr.wellFormed : Instr → Bool
  | .outword dir _ _ _ _ => decide (dir ≤ 3)
  | .idle | .power | .speed | .osc | .temp => true
  | .inStart | .inWait | .inOff | .inOn | .inSetSpeed => true
  | .inToggleTemperatureMode | .inToggleOscillation | .inPress => true
  | .motStart | .motOff | .motOn => true
  | .oscStart | .oscOff | .oscSweepLeft | .oscDwell | .oscSweepRight => true
  | .dispStart | .dispDwell | .dispOutput => true
  | .outStart | .outOutput => true
  | .schedTick => true

end Sys2Proof
end

