-- ==== Sys2Proof/Decode.lean ====
section
/-! DEFINITION. The encodings of spec/30_encoding.md: state codes (R104 to R108), input codes (R101 to R103),
the output word (R109), the tick event (R118). A decoder per format, total on every byte, that rejects by name;
then the encoder, written from the same tables; then the reading of a word of spec/opcode_table.json whose
format is not given. -/

namespace Sys2Proof

/-! ## State codes, format STATE8 -/

/-- The code of `Start` in every FSM (R104 to R108, R140). -/
def startCode : Nat := 0x00

/-- R104, state to code. -/
def InState.code : InState → Nat
  | .start => 0x00
  | .wait => 0x01
  | .off => 0x02
  | .on => 0x03
  | .setSpeed => 0x04
  | .toggleTemperatureMode => 0x05
  | .toggleOscillation => 0x06
  | .press => 0x07

/-- R104, code to state; `none` is "unrecognised" (from 0x08 up). -/
def InState.ofCode (n : Nat) : Option InState :=
  match n with
  | 0 => some .start
  | 1 => some .wait
  | 2 => some .off
  | 3 => some .on
  | 4 => some .setSpeed
  | 5 => some .toggleTemperatureMode
  | 6 => some .toggleOscillation
  | 7 => some .press
  | _ => none

/-- R105, state to code. -/
def MotState.code : MotState → Nat
  | .start => 0x00
  | .off => 0x01
  | .on => 0x02

/-- R105, code to state; `none` is "unrecognised" (from 0x03 up). -/
def MotState.ofCode (n : Nat) : Option MotState :=
  match n with
  | 0 => some .start
  | 1 => some .off
  | 2 => some .on
  | _ => none

/-- R106, state to code. -/
def OscState.code : OscState → Nat
  | .start => 0x00
  | .off => 0x01
  | .sweepLeft => 0x02
  | .dwell => 0x03
  | .sweepRight => 0x04

/-- R106, code to state; `none` is "unrecognised" (from 0x05 up). -/
def OscState.ofCode (n : Nat) : Option OscState :=
  match n with
  | 0 => some .start
  | 1 => some .off
  | 2 => some .sweepLeft
  | 3 => some .dwell
  | 4 => some .sweepRight
  | _ => none

/-- R107, state to code. -/
def DispState.code : DispState → Nat
  | .start => 0x00
  | .dwell => 0x01
  | .output => 0x02

/-- R107, code to state; `none` is "unrecognised" (from 0x03 up). -/
def DispState.ofCode (n : Nat) : Option DispState :=
  match n with
  | 0 => some .start
  | 1 => some .dwell
  | 2 => some .output
  | _ => none

/-- R108, state to code. -/
def OutState.code : OutState → Nat
  | .start => 0x00
  | .output => 0x01

/-- R108, code to state; `none` is "unrecognised" (from 0x02 up). -/
def OutState.ofCode (n : Nat) : Option OutState :=
  match n with
  | 0 => some .start
  | 1 => some .output
  | _ => none

/-- The step `IN.Sn` of R116. -/
def InState.instr : InState → Instr
  | .start => .inStart
  | .wait => .inWait
  | .off => .inOff
  | .on => .inOn
  | .setSpeed => .inSetSpeed
  | .toggleTemperatureMode => .inToggleTemperatureMode
  | .toggleOscillation => .inToggleOscillation
  | .press => .inPress

/-- The step `MOT.Sn` of R116. -/
def MotState.instr : MotState → Instr
  | .start => .motStart
  | .off => .motOff
  | .on => .motOn

/-- The step `OSC.Sn` of R116. -/
def OscState.instr : OscState → Instr
  | .start => .oscStart
  | .off => .oscOff
  | .sweepLeft => .oscSweepLeft
  | .dwell => .oscDwell
  | .sweepRight => .oscSweepRight

/-- The step `DISP.Sn` of R116. -/
def DispState.instr : DispState → Instr
  | .start => .dispStart
  | .dwell => .dispDwell
  | .output => .dispOutput

/-- The step `OUT.Sn` of R116. -/
def OutState.instr : OutState → Instr
  | .start => .outStart
  | .output => .outOutput

/-- The recognised step a state register selects, if its code is recognised (R118). -/
def stateInstr (t : Task) (n : Nat) : Option Instr :=
  match t with
  | .inp => (InState.ofCode n).map InState.instr
  | .mot => (MotState.ofCode n).map MotState.instr
  | .osc => (OscState.ofCode n).map OscState.instr
  | .disp => (DispState.ofCode n).map DispState.instr
  | .out => (OutState.ofCode n).map OutState.instr

/-! ## Input codes, format RAWIN4 -/

/-- R101: complement the port byte and keep the low four bits; bits 7:4 of the port are ignored. -/
def rawOfPin (p : Byte) : Nibble := (~~~p).setWidth 4

/-- R102: the value of `rawInput` of an input code. -/
def InputCode.raw (c : Config) : InputCode → Nibble
  | .idle => c.codeIdle
  | .power => c.codePower
  | .speed => c.codeSpeed
  | .osc => c.codeOsc
  | .temp => c.codeTemp

/-- R103: equality on all four bits with the power code first, then speed, oscillation, temperature mode;
the idle code is tested last. `none` is an unmatched value (R112). -/
def InputCode.ofRaw (c : Config) (r : Nibble) : Option InputCode :=
  if r = c.codePower then some .power
  else if r = c.codeSpeed then some .speed
  else if r = c.codeOsc then some .osc
  else if r = c.codeTemp then some .temp
  else if r = c.codeIdle then some .idle
  else none

/-- The row of an input code. -/
def InputCode.instr : InputCode → Instr
  | .idle => .idle
  | .power => .power
  | .speed => .speed
  | .osc => .osc
  | .temp => .temp

/-! ## The output word, format OUT8 -/

/-- R109: `(DIR_CODE << 4) | (motorEnabled << 3) | (servoPulseLevel << 2) | (oscillating << 1) | power`;
bits 7:6 are 0. -/
def outWord (dir : BitVec 2) (m s o p : Bool) : Byte :=
  (dir.setWidth 8 <<< 4) ||| ((BitVec.ofBool m).setWidth 8 <<< 3) ||| ((BitVec.ofBool s).setWidth 8 <<< 2) |||
    ((BitVec.ofBool o).setWidth 8 <<< 1) ||| (BitVec.ofBool p).setWidth 8

/-! ## Decoding -/

/-- Why a byte is no instruction of a format. None of these is a fault of the machine: R111 and R112 say what
the block does. -/
inductive DecodeError where
  /-- a raw input value equal to none of the five codes (R112) -/
  | unmatchedInput (raw : Nibble)
  /-- a state code that is in no table (R111) -/
  | unrecognisedState (t : Task) (code : Nat)
  /-- `tickFlag = 0`: no tick transaction is selected (R118, R132) -/
  | noTick
  /-- an output word whose reserved bits 7:6 are not 0 (R113) -/
  | reservedOutputBits (w : Byte)
  deriving DecidableEq, Repr

/-- What decoding answers: the instruction, or the reason there is none. -/
inductive Decoded where
  | instr (i : Instr)
  | rejected (e : DecodeError)
  deriving DecidableEq, Repr

/-- Format `RAWIN4`: the mask is 0x0F (R118), so only the low four bits are read. -/
def decodeRawin4 (c : Config) (w : Nat) : Decoded :=
  match InputCode.ofRaw c (BitVec.ofNat 4 w) with
  | some k => .instr k.instr
  | none => .rejected (.unmatchedInput (BitVec.ofNat 4 w))

/-- Format `STATE8` of the FSM of task `t`: all `STATE_W` bits of the state register are read (mask 0xFF with the decided
width of 8). -/
def decodeState8 (c : Config) (t : Task) (w : Nat) : Decoded :=
  match stateInstr t (w % 2 ^ c.stateW) with
  | some i => .instr i
  | none => .rejected (.unrecognisedState t (w % 2 ^ c.stateW))

/-- Pseudo-format `EVENT`: bit 0 stands for `tickFlag` (mask 0x1). -/
def decodeEvent (w : Nat) : Decoded :=
  if w % 2 = 1 then .instr .schedTick else .rejected .noTick

/-- Format `OUT8`, a byte: bits 7:6 must be 0 (mask 0xC0), the other bits are the fields of R109. -/
def decodeOut8 (b : Byte) : Decoded :=
  if b.extractLsb' 6 2 = 0#2 then
    .instr (.outword (b.extractLsb' 4 2).toNat (b.getLsbD 3) (b.getLsbD 2) (b.getLsbD 1) (b.getLsbD 0))
  else .rejected (.reservedOutputBits b)

/-- The decoder: total on every format and word; the bits of the word that the format does not hold are not read. -/
def decode (c : Config) (f : Format) (w : Nat) : Decoded :=
  match f with
  | .rawin4 => decodeRawin4 c w
  | .state8 t => decodeState8 c t w
  | .event => decodeEvent w
  | .out8 => decodeOut8 (BitVec.ofNat 8 w)

/-! ## Encoding -/

/-- The format and the word of an instruction, from R102, R104 to R109 and R118. -/
def encode (c : Config) : Instr → Format × Nat
  | .idle => (.rawin4, c.codeIdle.toNat)
  | .power => (.rawin4, c.codePower.toNat)
  | .speed => (.rawin4, c.codeSpeed.toNat)
  | .osc => (.rawin4, c.codeOsc.toNat)
  | .temp => (.rawin4, c.codeTemp.toNat)
  | .inStart => (.state8 .inp, 0x00)
  | .inWait => (.state8 .inp, 0x01)
  | .inOff => (.state8 .inp, 0x02)
  | .inOn => (.state8 .inp, 0x03)
  | .inSetSpeed => (.state8 .inp, 0x04)
  | .inToggleTemperatureMode => (.state8 .inp, 0x05)
  | .inToggleOscillation => (.state8 .inp, 0x06)
  | .inPress => (.state8 .inp, 0x07)
  | .motStart => (.state8 .mot, 0x00)
  | .motOff => (.state8 .mot, 0x01)
  | .motOn => (.state8 .mot, 0x02)
  | .oscStart => (.state8 .osc, 0x00)
  | .oscOff => (.state8 .osc, 0x01)
  | .oscSweepLeft => (.state8 .osc, 0x02)
  | .oscDwell => (.state8 .osc, 0x03)
  | .oscSweepRight => (.state8 .osc, 0x04)
  | .dispStart => (.state8 .disp, 0x00)
  | .dispDwell => (.state8 .disp, 0x01)
  | .dispOutput => (.state8 .disp, 0x02)
  | .outStart => (.state8 .out, 0x00)
  | .outOutput => (.state8 .out, 0x01)
  | .schedTick => (.event, 0x1)
  | .outword dir m s o p => (.out8, (outWord (BitVec.ofNat 2 dir) m s o p).toNat)

/-- How many bits a format holds (R100, R118): four for `RAWIN4`, `STATE_W` for `STATE8`, the flag for `EVENT`, eight for
`OUT8`. -/
def Format.width (c : Config) : Format → Nat
  | .rawin4 => 4
  | .state8 _ => c.stateW
  | .event => 1
  | .out8 => 8

/-! ## A word of the opcode table without its format -/

/-- The format of a table word of which only the length and the bits are known. R118 makes the format (and the FSM)
part of the selection, so a bare word may match rows of several formats; DESIGN CHOICE (log entry 4): the length
decides where it can, then the row whose mask fixes the most bits, the first task's table first. -/
def tableFormat (nbits : Nat) (b : Byte) : Option Format :=
  if nbits ≤ 1 then some .event
  else if nbits ≤ 4 then some .rawin4
  else if (InState.ofCode b.toNat).isSome then some (.state8 .inp)
  else if (InputCode.ofRaw Config.decided (b.setWidth 4)).isSome then some .rawin4
  else if b.extractLsb' 6 2 = 0#2 then some .out8
  else if b.getLsbD 0 then some .event
  else none

/-- The instruction read from the bits `w` of a row of spec/opcode_table.json, under the decided configuration. -/
def decodeTableWord (nbits w : Nat) : Option Instr :=
  match tableFormat nbits (BitVec.ofNat 8 w) with
  | none => none
  | some f =>
    match decode Config.decided f w with
    | .instr i => some i
    | .rejected _ => none

end Sys2Proof
end

