-- ==== Sys2Proof/Machine/State.lean ====
section
/-! DEFINITION. The state of the FANCTL block (spec/10_state.md), of the interface the spec keeps of its two
outside agents (spec/60_exceptions.md R252, R253), and the model's own bookkeeping of who moves next; the reasons a
step can stop; the state after reset (R60). -/

namespace Sys2Proof.Machine

/-- Why the machine stops with a fault. The type is EMPTY: the block raises no exception and has no fault
mechanism (spec/60_exceptions.md R240, R245), so there is no constructor for anyone to raise. Safe: nothing the
hardware does is turned into a stop. -/
inductive Fault where
  deriving DecidableEq, Repr

/-- Why the model gives a step no meaning. -/
inductive Refusal where
  /-- Raised by an arm of `exec` for an instruction that has no meaning yet; no arm raises it. Safe. -/
  | notModelled (mnemonic : String)
  /-- Raised by `step` alone, for a configuration that violates R9: "A model should refuse (give no meaning to) a
  configuration that is not well-formed." Safe: claims about such a machine cannot be proved by it running. -/
  | configNotWellFormed
  deriving DecidableEq, Repr

/-- The action states of the Input Interpreter, each of which requests a text update (R152). -/
inductive ActionState where
  | off
  | on
  | setSpeed
  | toggleTemperatureMode
  | toggleOscillation
  deriving DecidableEq, Repr

/-- The events the core sends to the outside (R74). -/
inductive Event where
  /-- `OutWrite(v)` (R72) -/
  | outWrite (v : Byte)
  /-- `TextUpdate(k)` (R152) -/
  | textUpdate (k : ActionState)
  /-- `BitmapRedraw(f)` (R224) -/
  | bitmapRedraw (f : BitVec 1)
  deriving DecidableEq, Repr

/-- Where the core stands after reset: the two boot operations of R273, then the scheduler loop of R131. -/
inductive Boot where
  /-- `TickSource.configure(TICK_PERIOD_UNITS)` comes next -/
  | configure
  /-- `TickSource.start()` comes next -/
  | start
  /-- the infinite loop of scheduler iterations -/
  | running
  deriving DecidableEq, Repr

/-- One move of one agent (R7, R260): everything that can happen to the block from outside, and the core's turn. -/
inductive Move where
  /-- the core makes its next move: a boot operation, a tick transaction, or a poll that finds no tick -/
  | core
  /-- the Tick Source reports that one tick period has elapsed (R46, R252) -/
  | tick
  /-- the environment presents this byte on `PIN_IN` (R71, R88) -/
  | present (b : Byte)
  /-- reset (R270) -/
  | reset
  deriving DecidableEq, Repr

/-- The machine. -/
structure State where
  /-- the build-time constants of R8 (R50); no rule writes them -/
  cfg : Config
  /-- R21 -/
  power : Bool
  /-- R22 -/
  oscillating : Bool
  /-- R23 -/
  temperatureMode : Bool
  /-- R24, two bits -/
  speedIndex : Fin NSPEED
  /-- R25, four bits -/
  rawInput : Nibble
  /-- R26, `DUTYCTR_W` bits -/
  dutyCounter : Nat
  /-- R27 -/
  motorEnabled : Bool
  /-- R28, `PHASE_W` bits -/
  phaseElapsed : Nat
  /-- R29, `PULSECTR_W` bits -/
  pulseCounter : Nat
  /-- R30: `true` is "high" -/
  servoPulseLevel : Bool
  /-- R31 -/
  frameIndex : BitVec 1
  /-- `st_in` (R40, R104), `STATE_W` bits, as the four below -/
  stIn : Nat
  /-- `st_mot` (R40, R105) -/
  stMot : Nat
  /-- `st_osc` (R40, R106) -/
  stOsc : Nat
  /-- `st_disp` (R40, R107) -/
  stDisp : Nat
  /-- `st_out` (R40, R108) -/
  stOut : Nat
  /-- `elapsed[0..4]` (R45), `ELAPSED_W` bits each -/
  elapsed : PerTask Nat
  /-- R46 -/
  tickFlag : Bool
  /-- R47 -/
  portOut : Byte
  /-- the byte the environment presents on `PIN_IN` now (R48, R71): an input, not state of the block -/
  pinIn : Byte
  /-- the period the Tick Source was given by `configure` (R252); it belongs to the Tick Source (R50); 0 at reset is a
  DESIGN CHOICE (log entry 9) -/
  tickPeriod : Nat
  /-- whether `start()` was called: before it the Tick Source never sets the flag (R252) -/
  tickStarted : Bool
  /-- the boot operations still to do (R273) -/
  boot : Boot
  /-- the events of the tick transaction that ran last, in order of emission (R74; DESIGN CHOICE, log entry 16) -/
  emitted : List Event
  /-- the MODEL's own field: whose moves come next, in order; when none is listed the core moves (DESIGN CHOICE,
  log entry 1) -/
  agenda : List Move
  deriving DecidableEq, Repr

/-- The block right after reset (R60, R270, R271) in the configuration `c`, with the byte `p` on `PIN_IN` and the
moves `ms` still to come: the constants, the port byte and the agents outside are not touched by reset. The Tick
Source is at rest until the boot operations of R273 (DEDUCED, log entry 5). -/
def State.resetWith (c : Config) (p : Byte) (ms : List Move) : State where
  cfg := c
  power := false
  oscillating := false
  temperatureMode := false
  speedIndex := 0
  rawInput := 0x0#4
  dutyCounter := 0
  motorEnabled := false
  phaseElapsed := 0
  pulseCounter := 0
  servoPulseLevel := false
  frameIndex := 0#1
  stIn := startCode
  stMot := startCode
  stOsc := startCode
  stDisp := startCode
  stOut := startCode
  elapsed := ⟨0, 0, 0, 0, 0⟩
  tickFlag := false
  portOut := 0x00#8
  pinIn := p
  tickPeriod := 0
  tickStarted := false
  boot := .configure
  emitted := []
  agenda := ms

/-- The machine right after reset, in the decided configuration (R8), with nothing pressed on `PIN_IN`
(DESIGN CHOICE, log entry 6) and no outside move listed. -/
def State.reset : State := State.resetWith Config.decided 0xFF#8 []

/-- The outcome of one instruction or one step. -/
abbrev Result := Host.Outcome State Fault Refusal

end Sys2Proof.Machine
end

