-- ==== Sys2Proof/Machine/Ops.lean ====
section
/-! DEFINITION. The named operations over registers, ports, counters and events that every step is made of
(spec/00_scope.md R14), and the block's one defensive mechanism, the return of an FSM to `Start` (R138, R241),
which stands where another machine has its trap entry; there is no return from it (R246). -/

namespace Sys2Proof.Machine

/-! ## Composing outcomes -/

/-- Go on with `f` where `r` answers a next state; a stop stays a stop. -/
def Result.andThen (r : Result) (f : State → Result) : Result :=
  match r with
  | .next s => f s
  | .fault e => .fault e
  | .refused e => .refused e

/-! ## Counters -/

/-- `n + 1` in a counter of `w` bits: the increment is taken modulo `2^w` (R11, the fixed-width reading;
DESIGN CHOICE, log entry 10). -/
def incr (w n : Nat) : Nat := (n + 1) % 2 ^ w

/-! ## State registers (R40) -/

/-- What stands in the state register of the FSM of task `t`. -/
def State.stField (s : State) : Task → Nat
  | .inp => s.stIn
  | .mot => s.stMot
  | .osc => s.stOsc
  | .disp => s.stDisp
  | .out => s.stOut

/-- Read of the state register of the FSM of task `t`: it has `STATE_W` bits (R8, R40), so no other bit is read. -/
def State.st (s : State) (t : Task) : Nat := s.stField t % 2 ^ s.cfg.stateW

/-- `st_X <- code`. -/
def State.setSt (s : State) (t : Task) (code : Nat) : State :=
  match t with
  | .inp => { s with stIn := code }
  | .mot => { s with stMot := code }
  | .osc => { s with stOsc := code }
  | .disp => { s with stDisp := code }
  | .out => { s with stOut := code }

/-- R138, R241: the FSM of task `t` goes to `Start`; nothing is saved, nothing is reported, no Shared Status Register
changes and no event is emitted. -/
def State.selfHeal (s : State) (t : Task) : State := s.setSt t startCode

/-! ## Elapsed counters (R45) -/

/-- R133: every one of the five counters is incremented by one. -/
def State.incrementElapsed (s : State) : State :=
  { s with elapsed := s.elapsed.map (incr s.cfg.elapsedW) }

/-- R134: `elapsed[t] <- 0`. -/
def State.clearElapsed (s : State) (t : Task) : State :=
  { s with elapsed := s.elapsed.set t 0 }

/-- R134: the task is due when its counter has reached its period; the comparison is `>=`. -/
def State.due (s : State) (t : Task) : Bool :=
  decide (s.cfg.period.get t ≤ s.elapsed.get t)

/-! ## Ports, tick flag and events (R71 to R74) -/

/-- `PortRead(PIN_IN)` (R71): no side effect. -/
def State.portRead (s : State) : Byte := s.pinIn

/-- `Emit(e)` (R74): append to the events of the current tick transaction. -/
def State.emit (s : State) (e : Event) : State :=
  { s with emitted := s.emitted ++ [e] }

/-- `PortWrite(PORT_OUT, v)` (R72): set the latch and emit `OutWrite(v)`, also when the value is unchanged. -/
def State.portWrite (s : State) (v : Byte) : State :=
  { s with portOut := v, emitted := s.emitted ++ [.outWrite v] }

/-- The scheduler's clear of `tickFlag` (R73, R132). It begins a tick transaction, whose list of events is empty
(R74). -/
def State.consumeTick (s : State) : State :=
  { s with tickFlag := false, emitted := [] }

end Sys2Proof.Machine
end

