-- ==== Sys2Proof/Machine/Operands.lean ====
section
/-! DEFINITION. Operand assembly: the places of spec/30_encoding.md R110 where a value selects another, and the
raw input code of R101. The block has no immediates and no addressing modes. -/

namespace Sys2Proof.Machine

/-- R151: the snapshot of the raw input port, complemented and masked (R101). -/
def State.samplePin (s : State) : Nibble := rawOfPin s.portRead

/-- R110 (c), R155: the destination of the power code, chosen by the current value of `power`. -/
def powerDestination (power : Bool) : InState :=
  if power = false then .on else .off

/-- R155, `Decode(r, pw)`: the state that `Wait` goes to. Every value that is none of the four button codes, idle or
unmatched (R112), selects `Wait`. -/
def decodeButton (c : Config) (r : Nibble) (power : Bool) : InState :=
  match InputCode.ofRaw c r with
  | some .power => powerDestination power
  | some .speed => .setSpeed
  | some .osc => .toggleOscillation
  | some .temp => .toggleTemperatureMode
  | some .idle => .wait
  | none => .wait

/-- R110 (a), R75: the table read `SPEED_DUTY_TABLE[speedIndex]`. -/
def State.selectedDuty (s : State) : Nat := s.cfg.dutyTable.get s.speedIndex

/-- R158: the cyclic advance of `speedIndex`. -/
def nextSpeed (i : Fin NSPEED) : Fin NSPEED :=
  if h : i.val + 1 ≥ NSPEED then 0 else ⟨i.val + 1, by omega⟩

/-- R209: the cyclic advance of `pulseCounter`; a count that is already past the period wraps too
(U4, log entry 10). -/
def nextPulse (c : Config) (n : Nat) : Nat :=
  if n + 1 ≥ c.pulsePeriod then 0 else incr c.pulseCtrW n

/-- The view `phase` of R42. -/
inductive Phase where
  | off
  | sweepLeft
  | dwell
  | sweepRight
  deriving DecidableEq, Repr

/-- R42: `phase` is the value of `st_osc`, with `Start` reading as `Off`; it is no register. An unrecognised code has no
phase (DESIGN CHOICE, log entry 19). -/
def State.phase (s : State) : Option Phase :=
  match OscState.ofCode (s.st .osc) with
  | some .start => some .off
  | some .off => some .off
  | some .sweepLeft => some .sweepLeft
  | some .dwell => some .dwell
  | some .sweepRight => some .sweepRight
  | none => none

end Sys2Proof.Machine
end

