-- ==== Sys2Proof/Machine/Flags.lean ====
section
/-! DEFINITION. The one-bit status values. The block has no condition codes (spec/10_state.md R34): each flag is
written only by the explicit assignment of its rule, collected here. -/

namespace Sys2Proof.Machine

/-- R184: the value of `motorEnabled` after the `On` action, from the incremented counter `d`, the threshold, the
selected duty and the value before; in the third branch it is not written. -/
def motorEnabledAfter (d threshold duty : Nat) (before : Bool) : Bool :=
  if d < threshold then false
  else if d ≤ duty then true
  else before

/-- R184: the value of `dutyCounter` after the `On` action, from the incremented counter `d`: reset in the third
branch only. -/
def dutyCounterAfter (d threshold duty : Nat) : Nat :=
  if d < threshold then d
  else if d ≤ duty then d
  else 0

/-- R209: the servo pulse is high while the new `pulseCounter` does not exceed the target width. -/
def pulseLevel (pulse width : Nat) : Bool := decide (pulse ≤ width)

/-- R223: `frameIndex xor 1`. -/
def toggleFrame (f : BitVec 1) : BitVec 1 := f ^^^ 1#1

end Sys2Proof.Machine
end

