-- ==== Sys2Proof/Machine/DisplayAnimation.lean ====
section
/-! DEFINITION. Task 3, the Display Animation FSM (spec/44_display_animation.md R220 to R226). -/

namespace Sys2Proof.Machine

/-- The transition part of R221, R222 and R223. -/
def dispTransition (st : DispState) (s : State) : DispState :=
  match st with
  | .start => .dwell
  | .dwell => if s.power = true then .output else .dwell
  | .output => if s.power = false then .dwell else .output

/-- The `Output` action (R223): toggle `frameIndex`, then request the redraw with the new value (R224). -/
def dispOutputAction (s : State) : State :=
  State.emit { s with frameIndex := toggleFrame s.frameIndex } (.bitmapRedraw (toggleFrame s.frameIndex))

/-- The action of the entered state (R221, R222, R223). -/
def dispAction (st : DispState) (s : State) : State :=
  match st with
  | .start => s
  | .dwell => s
  | .output => dispOutputAction s

/-- One step of the Display Animation FSM from the recognised state `st` (R137). -/
def dispStepFrom (st : DispState) (s : State) : State :=
  let entered := dispTransition st s
  dispAction entered (s.setSt .disp entered.code)

/-- `DISP.Start` (R221). -/
def execDispStart (s : State) : Result := .next (dispStepFrom .start s)

/-- `DISP.Dwell` (R222). -/
def execDispDwell (s : State) : Result := .next (dispStepFrom .dwell s)

/-- `DISP.Output` (R223). -/
def execDispOutput (s : State) : Result := .next (dispStepFrom .output s)

/-- The step of task 3; an unrecognised code returns the FSM to `Start` (R225). -/
def stepDisplay (s : State) : Result :=
  match DispState.ofCode (s.st .disp) with
  | some .start => execDispStart s
  | some .dwell => execDispDwell s
  | some .output => execDispOutput s
  | none => .next (s.selfHeal .disp)

end Sys2Proof.Machine
end

