-- ==== Sys2Proof/Machine/InputInterpreter.lean ====
section
/-! DEFINITION. Task 0, the Input Interpreter (spec/41_input_interpreter.md R150 to R164): snapshot, transition, action
of the entered state (R137, R151), and the meaning of its eight steps and of the five input codes. -/

namespace Sys2Proof.Machine

/-- R151: every step begins by writing the fresh snapshot to `rawInput`. -/
def State.snapshot (s : State) (raw : Nibble) : State := { s with rawInput := raw }

/-- The transition part of R153, R154, R156 to R160 and R162; it reads the fresh `rawInput`, `power` and the codes. -/
def inTransition (st : InState) (s : State) : InState :=
  match st with
  | .start => .wait
  | .wait => decodeButton s.cfg s.rawInput s.power
  | .off => .press
  | .on => .press
  | .setSpeed => .press
  | .toggleTemperatureMode => .press
  | .toggleOscillation => .press
  | .press => if s.rawInput = s.cfg.codeIdle then .wait else .press

/-- The action of the entered state (R153, R154, R156 to R160, R162); the text update follows the register update
(R152). -/
def inAction (st : InState) (s : State) : State :=
  match st with
  | .start => s
  | .wait => s
  | .off => State.emit { s with power := false } (.textUpdate .off)
  | .on => State.emit { s with power := true } (.textUpdate .on)
  | .setSpeed =>
    State.emit
      { s with speedIndex := (if s.temperatureMode = false then nextSpeed s.speedIndex else s.speedIndex) }
      (.textUpdate .setSpeed)
  | .toggleTemperatureMode =>
    State.emit { s with temperatureMode := !s.temperatureMode } (.textUpdate .toggleTemperatureMode)
  | .toggleOscillation =>
    State.emit { s with oscillating := !s.oscillating } (.textUpdate .toggleOscillation)
  | .press => s

/-- One step of the Input Interpreter from the recognised state `st` with the snapshot `raw` (R137, R151). -/
def inStepFrom (st : InState) (raw : Nibble) (s : State) : State :=
  let s1 := s.snapshot raw
  let entered := inTransition st s1
  inAction entered (s1.setSt .inp entered.code)

/-- `IN.Start` (R153). -/
def execInStart (s : State) : Result := .next (inStepFrom .start s.samplePin s)

/-- `IN.Wait` (R154). -/
def execInWait (s : State) : Result := .next (inStepFrom .wait s.samplePin s)

/-- `IN.Off` (R156). -/
def execInOff (s : State) : Result := .next (inStepFrom .off s.samplePin s)

/-- `IN.On` (R157). -/
def execInOn (s : State) : Result := .next (inStepFrom .on s.samplePin s)

/-- `IN.SetSpeed` (R158). -/
def execInSetSpeed (s : State) : Result := .next (inStepFrom .setSpeed s.samplePin s)

/-- `IN.ToggleTemperatureMode` (R159). -/
def execInToggleTemperatureMode (s : State) : Result :=
  .next (inStepFrom .toggleTemperatureMode s.samplePin s)

/-- `IN.ToggleOscillation` (R160). -/
def execInToggleOscillation (s : State) : Result := .next (inStepFrom .toggleOscillation s.samplePin s)

/-- `IN.Press` (R162). -/
def execInPress (s : State) : Result := .next (inStepFrom .press s.samplePin s)

/-- The step of task 0: the state register selects the step; an unrecognised code returns the FSM to `Start` after the
snapshot (R163). -/
def stepInput (s : State) : Result :=
  match InState.ofCode (s.st .inp) with
  | some .start => execInStart s
  | some .wait => execInWait s
  | some .off => execInOff s
  | some .on => execInOn s
  | some .setSpeed => execInSetSpeed s
  | some .toggleTemperatureMode => execInToggleTemperatureMode s
  | some .toggleOscillation => execInToggleOscillation s
  | some .press => execInPress s
  | none => .next ((s.snapshot s.samplePin).selfHeal .inp)

/-- The step of task 0 that samples the value `raw`, whatever stands on the port: what an input code selects in the
state the FSM is in (R102, R155, R162; DESIGN CHOICE, log entry 3). -/
def inStepSampling (raw : Nibble) (s : State) : State :=
  match InState.ofCode (s.st .inp) with
  | some st => inStepFrom st raw s
  | none => (s.snapshot raw).selfHeal .inp

/-- `IDLE` (R102, R155, R162). -/
def execIdle (s : State) : Result := .next (inStepSampling s.cfg.codeIdle s)

/-- `POWER` (R102, R155). -/
def execPower (s : State) : Result := .next (inStepSampling s.cfg.codePower s)

/-- `SPEED` (R102, R155). -/
def execSpeed (s : State) : Result := .next (inStepSampling s.cfg.codeSpeed s)

/-- `OSC` (R102, R155). -/
def execOsc (s : State) : Result := .next (inStepSampling s.cfg.codeOsc s)

/-- `TEMP` (R102, R155). -/
def execTemp (s : State) : Result := .next (inStepSampling s.cfg.codeTemp s)

end Sys2Proof.Machine
end

