-- ==== Sys2Proof/Machine/MotorDuty.lean ====
section
/-! DEFINITION. Task 1, the Motor Duty FSM (spec/42_motor_duty.md R180 to R187). -/

namespace Sys2Proof.Machine

/-- The transition part of R181, R182 and R183. -/
def motTransition (st : MotState) (s : State) : MotState :=
  match st with
  | .start => .off
  | .off => if s.power = true then .on else .off
  | .on => if s.power = false then .off else .on

/-- The `On` action (R184): increment `dutyCounter`, then one of three exclusive branches on the incremented value. -/
def motOnAction (s : State) : State :=
  let d := incr s.cfg.dutyCtrW s.dutyCounter
  { s with
    dutyCounter := dutyCounterAfter d s.cfg.dutyLowThreshold s.selectedDuty
    motorEnabled := motorEnabledAfter d s.cfg.dutyLowThreshold s.selectedDuty s.motorEnabled }

/-- The action of the entered state (R181, R182, R184). -/
def motAction (st : MotState) (s : State) : State :=
  match st with
  | .start => s
  | .off => { s with motorEnabled := false }
  | .on => motOnAction s

/-- One step of the Motor Duty FSM from the recognised state `st` (R137). -/
def motStepFrom (st : MotState) (s : State) : State :=
  let entered := motTransition st s
  motAction entered (s.setSt .mot entered.code)

/-- `MOT.Start` (R181). -/
def execMotStart (s : State) : Result := .next (motStepFrom .start s)

/-- `MOT.Off` (R182). -/
def execMotOff (s : State) : Result := .next (motStepFrom .off s)

/-- `MOT.On` (R183, R184). -/
def execMotOn (s : State) : Result := .next (motStepFrom .on s)

/-- The step of task 1; an unrecognised code returns the FSM to `Start` (R185). -/
def stepMotor (s : State) : Result :=
  match MotState.ofCode (s.st .mot) with
  | some .start => execMotStart s
  | some .off => execMotOff s
  | some .on => execMotOn s
  | none => .next (s.selfHeal .mot)

end Sys2Proof.Machine
end

