-- ==== Sys2Proof/Machine/Oscillator.lean ====
section
/-! DEFINITION. Task 2, the Oscillator FSM (spec/43_oscillator.md R195 to R211): the outer phase clock, the inner
pulse clock, and the five steps. -/

namespace Sys2Proof.Machine

/-- `PhaseTick` (R202). -/
def State.phaseTick (s : State) : State :=
  { s with phaseElapsed := incr s.cfg.phaseW s.phaseElapsed }

/-- The reset of `phaseElapsed` (R203). -/
def State.phaseReset (s : State) : State := { s with phaseElapsed := 0 }

/-- `PulseGen(w)` (R209): advance the counter with wrap, then compute the level from the new value. -/
def State.pulseGen (s : State) (w : Nat) : State :=
  { s with
    pulseCounter := nextPulse s.cfg s.pulseCounter
    servoPulseLevel := pulseLevel (nextPulse s.cfg s.pulseCounter) w }

/-- The entered state of R196 to R200; `oscillating = false` is tested first, then the limits, on `phaseElapsed` as it
is before this step's `PhaseTick`. -/
def oscTransition (st : OscState) (s : State) : OscState :=
  match st with
  | .start => .off
  | .off => if s.oscillating = true then .sweepLeft else .off
  | .sweepLeft =>
    if s.oscillating = false then .off
    else if s.phaseElapsed > s.cfg.sweepLLimit then .dwell
    else .sweepLeft
  | .dwell =>
    if s.oscillating = false then .off
    else if s.phaseElapsed > s.cfg.dwellLimit then .sweepRight
    else if s.phaseElapsed > s.cfg.dwell2Limit ∧ s.phaseElapsed ≤ s.cfg.sweepLLimit then .sweepLeft
    else .dwell
  | .sweepRight =>
    if s.oscillating = false then .off
    else if s.phaseElapsed > s.cfg.sweepRLimit then .dwell
    else .sweepRight

/-- The write of `phaseElapsed` that is part of a transition: only `SweepRight` to `Dwell` resets it (R200, R203). -/
def oscTransitionWrite (st entered : OscState) (s : State) : State :=
  if st = .sweepRight ∧ entered = .dwell then s.phaseReset else s

/-- The action of the entered state (R196 to R200). -/
def oscAction (st : OscState) (s : State) : State :=
  match st with
  | .start => s
  | .off => { s with servoPulseLevel := false }
  | .sweepLeft => s.phaseTick.pulseGen s.cfg.widthLeft
  | .dwell => { s.phaseTick with servoPulseLevel := false }
  | .sweepRight => s.phaseTick.pulseGen s.cfg.widthRight

/-- One step of the Oscillator FSM from the recognised state `st` (R137). -/
def oscStepFrom (st : OscState) (s : State) : State :=
  let entered := oscTransition st s
  oscAction entered ((oscTransitionWrite st entered s).setSt .osc entered.code)

/-- `OSC.Start` (R196). -/
def execOscStart (s : State) : Result := .next (oscStepFrom .start s)

/-- `OSC.Off` (R197). -/
def execOscOff (s : State) : Result := .next (oscStepFrom .off s)

/-- `OSC.SweepLeft` (R198). -/
def execOscSweepLeft (s : State) : Result := .next (oscStepFrom .sweepLeft s)

/-- `OSC.Dwell` (R199). -/
def execOscDwell (s : State) : Result := .next (oscStepFrom .dwell s)

/-- `OSC.SweepRight` (R200). -/
def execOscSweepRight (s : State) : Result := .next (oscStepFrom .sweepRight s)

/-- The step of task 2; an unrecognised code returns the FSM to `Start` (R201). -/
def stepOscillator (s : State) : Result :=
  match OscState.ofCode (s.st .osc) with
  | some .start => execOscStart s
  | some .off => execOscOff s
  | some .sweepLeft => execOscSweepLeft s
  | some .dwell => execOscDwell s
  | some .sweepRight => execOscSweepRight s
  | none => .next (s.selfHeal .osc)

end Sys2Proof.Machine
end

