-- ==== Sys2Proof/Machine/OutputComposer.lean ====
section
/-! DEFINITION. Task 4, the Output Composer FSM, and the output word (spec/45_output_composer.md R230 to R235). -/

namespace Sys2Proof.Machine

/-- `Compose()` (R233): the output word of the registers as they are now; it is not state (R49). -/
def State.compose (s : State) : Byte :=
  outWord (BitVec.ofNat 2 s.cfg.dirCode) s.motorEnabled s.servoPulseLevel s.oscillating s.power

/-- The transition part of R231 and R232. -/
def outTransition (st : OutState) : OutState :=
  match st with
  | .start => .output
  | .output => .output

/-- The action of the entered state (R231, R232): `Output` writes the composed word to the port. -/
def outAction (st : OutState) (s : State) : State :=
  match st with
  | .start => s
  | .output => s.portWrite s.compose

/-- One step of the Output Composer FSM from the recognised state `st` (R137). -/
def outStepFrom (st : OutState) (s : State) : State :=
  let entered := outTransition st
  outAction entered (s.setSt .out entered.code)

/-- `OUT.Start` (R231). -/
def execOutStart (s : State) : Result := .next (outStepFrom .start s)

/-- `OUT.Output` (R232). -/
def execOutOutput (s : State) : Result := .next (outStepFrom .output s)

/-- The step of task 4; an unrecognised code returns the FSM to `Start` without a port write (R234). -/
def stepComposer (s : State) : Result :=
  match OutState.ofCode (s.st .out) with
  | some .start => execOutStart s
  | some .output => execOutOutput s
  | none => .next (s.selfHeal .out)

/-- `OUTWORD` (R109, R233): the word with these fields is written to `PORT_OUT` (R72); it is the write that
`OUT.Output` makes with the fields that `Compose()` reads (DESIGN CHOICE, log entry 3). -/
def execOutword (dir : Nat) (m sv o p : Bool) (s : State) : Result :=
  .next (s.portWrite (outWord (BitVec.ofNat 2 dir) m sv o p))

end Sys2Proof.Machine
end

