-- ==== Sys2Proof/Machine/Scheduler.lean ====
section
/-! DEFINITION. The Scheduler (spec/40_scheduler.md R130 to R141): the step of each task, the dispatch of the due
tasks in task order, and the tick transaction `SCHED.Tick`. -/

namespace Sys2Proof.Machine

/-- `Step_i()` of R130 and R137. -/
def runTask (t : Task) (s : State) : Result :=
  match t with
  | .inp => stepInput s
  | .mot => stepMotor s
  | .osc => stepOscillator s
  | .disp => stepDisplay s
  | .out => stepComposer s

/-- R134: a due task steps once and its counter is then cleared; nothing happens to a task that is not due. -/
def dispatchTask (t : Task) (s : State) : Result :=
  if s.due t then (runTask t s).andThen (fun s' => .next (s'.clearElapsed t)) else .next s

/-- R134, R135: the due tasks in task order 0 to 4, each test made after the step of the task before it. -/
def dispatchAll (s : State) : Result :=
  ((((dispatchTask .inp s).andThen (dispatchTask .mot)).andThen (dispatchTask .osc)).andThen
    (dispatchTask .disp)).andThen (dispatchTask .out)

/-- `SCHED.Tick`, the tick transaction (R131): consume the tick (R132), increment all counters (R133), dispatch. -/
def execSchedTick (s : State) : Result :=
  dispatchAll s.consumeTick.incrementElapsed

end Sys2Proof.Machine
end

