-- ==== Sys2Proof/Machine/Dispatch.lean ====
section
/-! DEFINITION. The dispatch of the instructions to their meanings: one arm per constructor, one constructor per row of
spec/opcode_table.json. -/

namespace Sys2Proof.Machine

def exec (i : Instr) (s : State) : Host.Outcome State Fault Refusal :=
  match i with
  | .idle => Sys2Proof.Machine.execIdle s
  | .power => Sys2Proof.Machine.execPower s
  | .speed => Sys2Proof.Machine.execSpeed s
  | .osc => Sys2Proof.Machine.execOsc s
  | .temp => Sys2Proof.Machine.execTemp s
  | .inStart => Sys2Proof.Machine.execInStart s
  | .inWait => Sys2Proof.Machine.execInWait s
  | .inOff => Sys2Proof.Machine.execInOff s
  | .inOn => Sys2Proof.Machine.execInOn s
  | .inSetSpeed => Sys2Proof.Machine.execInSetSpeed s
  | .inToggleTemperatureMode => Sys2Proof.Machine.execInToggleTemperatureMode s
  | .inToggleOscillation => Sys2Proof.Machine.execInToggleOscillation s
  | .inPress => Sys2Proof.Machine.execInPress s
  | .motStart => Sys2Proof.Machine.execMotStart s
  | .motOff => Sys2Proof.Machine.execMotOff s
  | .motOn => Sys2Proof.Machine.execMotOn s
  | .oscStart => Sys2Proof.Machine.execOscStart s
  | .oscOff => Sys2Proof.Machine.execOscOff s
  | .oscSweepLeft => Sys2Proof.Machine.execOscSweepLeft s
  | .oscDwell => Sys2Proof.Machine.execOscDwell s
  | .oscSweepRight => Sys2Proof.Machine.execOscSweepRight s
  | .dispStart => Sys2Proof.Machine.execDispStart s
  | .dispDwell => Sys2Proof.Machine.execDispDwell s
  | .dispOutput => Sys2Proof.Machine.execDispOutput s
  | .outStart => Sys2Proof.Machine.execOutStart s
  | .outOutput => Sys2Proof.Machine.execOutOutput s
  | .schedTick => Sys2Proof.Machine.execSchedTick s
  | .outword dir m sv o p => Sys2Proof.Machine.execOutword dir m sv o p s

end Sys2Proof.Machine
end

