-- ==== Sys2Proof/Machine/Environment.lean ====
section
/-! DEFINITION. The agents outside the core (spec/00_scope.md R7, spec/60_exceptions.md R252, R260), and the boot
operations of the core (spec/70_reset_and_hazards.md R273). -/

namespace Sys2Proof.Machine

/-- The Tick Source reports a tick (R46, R252): the flag is set; a tick that finds it set already is absorbed, that is
lost (R280); before `start()` the flag is never set. -/
def State.tickArrives (s : State) : State :=
  { s with tickFlag := s.tickFlag || s.tickStarted }

/-- The environment presents a byte on the raw input port (R71, R88). -/
def State.presentPin (s : State) (b : Byte) : State := { s with pinIn := b }

/-- Reset (R270): every element of state at its reset value, the core back at the boot sequence; the constants, the
byte on the port and the moves still to come stay (DEDUCED, log entry 15). -/
def State.applyReset (s : State) : State := State.resetWith s.cfg s.pinIn s.agenda

/-- `TickSource.configure(TICK_PERIOD_UNITS)`, the first boot operation (R252, R273). -/
def State.bootConfigure (s : State) : State :=
  { s with tickPeriod := Config.tickPeriodUnits, boot := .start }

/-- `TickSource.start()`, the second boot operation (R252, R273). -/
def State.bootStart (s : State) : State :=
  { s with tickStarted := true, boot := .running }

/-- A stimulus trace of R117 as moves: for each byte, the environment presents it, a tick arrives, the core moves. -/
def movesOfTrace : List Byte → List Move
  | [] => []
  | b :: bs => .present b :: .tick :: .core :: movesOfTrace bs

end Sys2Proof.Machine
end

