-- ==== Sys2Proof/Machine/Fetch.lean ====
section
/-! DEFINITION. What the core runs next, and how a given instruction is put where the core runs it next. There is no
program counter and no instruction memory (spec/10_state.md R41): the loop runs the tick transaction when `tickFlag` is
set (R118, R132), and inside it the state registers and the elapsed counters select the steps. -/

namespace Sys2Proof.Machine

/-- The poll of `tickFlag` (R132): the flag, decoded in the pseudo-format `EVENT`. -/
def State.fetch (s : State) : Decoded :=
  decode s.cfg .event s.tickFlag.toNat

/-- The core stands in its loop with a tick to consume, and it is the core's turn. -/
def State.placeTick (s : State) : State :=
  { s with boot := .running, tickStarted := true, tickFlag := true, agenda := .core :: s.agenda }

/-- Elapsed counters with which the next tick transaction dispatches the task `t` alone: its counter reaches its
period; the others stand at the all-ones value and wrap to 0 (R11). -/
def State.placeOnlyDue (s : State) (t : Task) : State :=
  let ones := 2 ^ s.cfg.elapsedW - 1
  { s with elapsed := (PerTask.mk ones ones ones ones ones).set t (s.cfg.period.get t - 1) }

/-- Put one instruction where the very next step runs it (log entry 7): a tick transaction that dispatches the one task
concerned, whose state register holds the step's code; for an input code, the port presents it to `Wait`; for an
output word, the Output Composer is in `Output` and the registers hold the word's fields. -/
def State.placeInstr (s : State) (i : Instr) : State :=
  match i with
  | .outword dir m sv o p =>
    { s.placeTick.placeOnlyDue .out with
      stOut := OutState.output.code
      cfg := { s.cfg with dirCode := dir }
      motorEnabled := m
      servoPulseLevel := sv
      oscillating := o
      power := p }
  | i =>
    match encode s.cfg i with
    | (.state8 t, w) => (s.placeTick.placeOnlyDue t).setSt t w
    | (.rawin4, w) =>
      { s.placeTick.placeOnlyDue .inp with stIn := InState.wait.code, pinIn := ~~~(BitVec.ofNat 8 w) }
    | (.event, _) => s.placeTick
    | (.out8, _) => s.placeTick

/-- Put the bits `w` of a row of the opcode table where the very next step runs them. A byte that is no row's is put
into the first state register, whose next step then returns the FSM to `Start` (R138). -/
def State.placeTableWord (s : State) (nbits w : Nat) : State :=
  match decodeTableWord nbits w with
  | some i => s.placeInstr i
  | none => (s.placeTick.placeOnlyDue .inp).setSt .inp (w % 2 ^ s.cfg.stateW)

end Sys2Proof.Machine
end

