-- ==== Sys2Proof/Machine/Moves.lean ====
section
/-! DEFINITION. The moves of the agents (spec/00_scope.md R7), and which of them comes next. The core's move is a boot
operation (R273), the tick transaction when `tickFlag` is set, or a poll that changes nothing (R132). -/

namespace Sys2Proof.Machine

/-- The core's move. While `tickFlag = 0` the core changes no state (R132; that this is a step is a DESIGN CHOICE,
log entry 17). -/
def coreMove (s : State) : Host.Outcome State Fault Refusal :=
  match s.boot with
  | .configure => .next s.bootConfigure
  | .start => .next s.bootStart
  | .running =>
    match s.fetch with
    | .instr i => exec i s
    | .rejected _ => .next s

/-- One listed move, made by the agent it belongs to. -/
def makeMove (m : Move) (s : State) : Host.Outcome State Fault Refusal :=
  match m with
  | .core => coreMove s
  | .tick => .next s.tickArrives
  | .present b => .next (s.presentPin b)
  | .reset => .next s.applyReset

/-- The next move. A configuration that is not well-formed has no meaning (R9); else the first listed move is made, and
where none is listed the core moves (log entry 1). -/
def nextMove (s : State) : Host.Outcome State Fault Refusal :=
  if s.cfg.WellFormed then
    match s.agenda with
    | [] => coreMove s
    | m :: rest => makeMove m { s with agenda := rest }
  else .refused .configNotWellFormed

end Sys2Proof.Machine
end

