-- ==== Sys2Proof/Machine/Step.lean ====
section
/-! DEFINITION. One step of the machine: one move of one agent (spec/00_scope.md R7). -/

namespace Sys2Proof.Machine

/-- One step (Machine/Moves.lean says which move comes next and what it does). -/
def step (s : State) : Host.Outcome State Fault Refusal := nextMove s

/-- `s` with the bits `w` of an opcode-table row put where the very next step runs them (log entry 7). -/
def State.withFetchWord (s : State) (nbits w : Nat) : State := s.placeTableWord nbits w

end Sys2Proof.Machine
end

