-- ==== Sys2Proof/Safety.lean ====
section
/-! DEFINITION. The terms the statements use: which instructions belong to which task, which registers each agent
writes (spec/10_state.md R32), what every state of a run satisfies, and repeated execution. A run of this machine is
safe when it goes on: the block has no fault (spec/60_exceptions.md R240). -/

namespace Sys2Proof.Machine

/-! ## The instructions of each task -/

/-- The steps of the FSM of a task (R116, R118). -/
def taskSteps : Task → List Instr
  | .inp => [.inStart, .inWait, .inOff, .inOn, .inSetSpeed, .inToggleTemperatureMode, .inToggleOscillation, .inPress]
  | .mot => [.motStart, .motOff, .motOn]
  | .osc => [.oscStart, .oscOff, .oscSweepLeft, .oscDwell, .oscSweepRight]
  | .disp => [.dispStart, .dispDwell, .dispOutput]
  | .out => [.outStart, .outOutput]

/-- The input codes (R102). -/
def inputCodes : List Instr := [.idle, .power, .speed, .osc, .temp]

/-! ## The registers of each writer (R32) -/

/-- Written by the Input Interpreter only. -/
def State.inputRegs (s : State) : Bool × Bool × Bool × Fin NSPEED × Nibble × Nat :=
  (s.power, s.oscillating, s.temperatureMode, s.speedIndex, s.rawInput, s.stIn)

/-- Written by the Motor Duty FSM only. -/
def State.motorRegs (s : State) : Nat × Bool × Nat := (s.dutyCounter, s.motorEnabled, s.stMot)

/-- Written by the Oscillator FSM only. -/
def State.oscillatorRegs (s : State) : Nat × Nat × Bool × Nat :=
  (s.phaseElapsed, s.pulseCounter, s.servoPulseLevel, s.stOsc)

/-- Written by the Display Animation FSM only. -/
def State.displayRegs (s : State) : BitVec 1 × Nat := (s.frameIndex, s.stDisp)

/-- Written by the Output Composer only. -/
def State.composerRegs (s : State) : Byte × Nat := (s.portOut, s.stOut)

/-- Written by the Scheduler (and, for the set of `tickFlag`, the Tick Source) only. -/
def State.schedulerRegs (s : State) : PerTask Nat × Bool := (s.elapsed, s.tickFlag)

/-- What no instruction writes: the constants, the port of the environment, the Tick Source, the boot sequence and the
moves still to come. -/
def State.outside (s : State) : Config × Byte × Nat × Bool × Boot × List Move :=
  (s.cfg, s.pinIn, s.tickPeriod, s.tickStarted, s.boot, s.agenda)

/-! ## The invariant of a run -/

/-- Every state register holds a recognised code (R111, R241: no unrecognised code is reachable from reset). -/
abbrev State.RecognisedCodes (s : State) : Prop :=
  InState.ofCode (s.st .inp) ≠ none ∧ MotState.ofCode (s.st .mot) ≠ none ∧ OscState.ofCode (s.st .osc) ≠ none ∧
  DispState.ofCode (s.st .disp) ≠ none ∧ OutState.ofCode (s.st .out) ≠ none

/-- What stands in a state register fits its `STATE_W` bits (R8, R40). -/
abbrev State.CodesInWidth (s : State) : Prop :=
  s.stIn < 2 ^ s.cfg.stateW ∧ s.stMot < 2 ^ s.cfg.stateW ∧ s.stOsc < 2 ^ s.cfg.stateW ∧
  s.stDisp < 2 ^ s.cfg.stateW ∧ s.stOut < 2 ^ s.cfg.stateW

/-- The ranges of the counters between steps (R26, R29, R45): `elapsed[i] < PERIOD[i]`, `dutyCounter` within the table
(R187), `pulseCounter < PULSE_PERIOD`. `phaseElapsed` is here bounded by its width only: the bound of R205 is kept by every
step but a late stop of the oscillation, see `State.PhaseInRange` and `State.StoppedLate` (log entry 8). -/
abbrev State.CountersInRange (s : State) : Prop :=
  (s.elapsed.inp < s.cfg.period.inp ∧ s.elapsed.mot < s.cfg.period.mot ∧ s.elapsed.osc < s.cfg.period.osc ∧
    s.elapsed.disp < s.cfg.period.disp ∧ s.elapsed.out < s.cfg.period.out) ∧
  s.dutyCounter ≤ s.cfg.dutyTable.d3 ∧ s.pulseCounter < s.cfg.pulsePeriod ∧ s.phaseElapsed < 2 ^ s.cfg.phaseW

/-- The Tick Source runs exactly when the boot sequence is over, and the flag is never set before (R252, R273). -/
abbrev State.BootConsistent (s : State) : Prop :=
  (s.tickStarted = true ↔ s.boot = .running) ∧ (s.tickFlag = true → s.tickStarted = true)

/-- The reserved bits 7:6 of the output latch are 0 (R113). -/
abbrev State.ReservedBitsZero (s : State) : Prop := s.portOut.extractLsb' 6 2 = 0#2

/-- What every state of a run from reset satisfies. -/
abbrev State.Inv (s : State) : Prop :=
  s.cfg.WellFormed ∧ s.RecognisedCodes ∧ s.CodesInWidth ∧ s.CountersInRange ∧ s.BootConsistent ∧ s.ReservedBitsZero

/-! ## The bound on the outer clock (R11, R28, R205; log entry 8) -/

/-- How far the outer clock may have run in each state of the Oscillator, if it is never to pass `SWEEP_R_LIMIT + 1`: the three
steps of a restart with a stale clock (R211) each add one. `none` is an unrecognised code, which goes to `Start`. -/
def State.phaseBound (s : State) : Nat :=
  match OscState.ofCode (s.st .osc) with
  | some .sweepRight => s.cfg.sweepRLimit + 1
  | some .dwell => s.cfg.sweepRLimit
  | some .sweepLeft => s.cfg.sweepRLimit - 1
  | some .off => s.cfg.sweepRLimit - 2
  | some .start => s.cfg.sweepRLimit - 2
  | none => s.cfg.sweepRLimit - 2

/-- The outer clock is within the bound of R205, and no restart of the oscillation from here can carry it past. -/
abbrev State.PhaseInRange (s : State) : Prop :=
  s.phaseElapsed ≤ s.phaseBound

/-- Between `s` and `t` the Oscillator was switched off at the end of a lap: it left an active phase for `Off` with the held
clock above `SWEEP_R_LIMIT - 2` (R200: "Leaving for `Off` does not reset it"; R203). -/
abbrev State.StoppedLate (s t : State) : Prop :=
  s.st .osc ∈ [0x02, 0x03, 0x04] ∧ t.st .osc = 0x01 ∧ t.oscillating = false ∧ t.phaseElapsed = s.phaseElapsed ∧
  s.cfg.sweepRLimit - 2 < s.phaseElapsed

/-! ## Going on -/

/-- `f`, `n` times, as long as it answers a next state. -/
def iterate (f : State → Result) : Nat → State → Result
  | 0, s => .next s
  | n + 1, s => (f s).andThen (iterate f n)

end Sys2Proof.Machine
end

