-- ==== Sys2Proof/Certificates/Slice0/Obligations.lean ====
section
/-! DEFINITION. The statements for the provers. Each docstring names the rule of spec/ it formalises, or says that the
statement rests on a choice of the spec (a decision D<n>) or of this model (a log entry). -/

open Sys2Proof Sys2Proof.Machine

/-! ## Encodings -/

/-- R118, R102, R104 to R109: decoding the encoding of a well-formed instruction gives it back, in every well-formed
configuration. -/
def Obligations.DecodeOfEncodeIsInstruction : Prop :=
  ∀ (c : Config) (i : Instr), c.WellFormed → i.wellFormed = true →
    decode c (encode c i).1 (encode c i).2 = .instr i

/-- R100, R118: whatever word decodes in a format is, on that format's bits, the encoding of what it decodes to; no bit of
an encoding is dropped and two words that differ on those bits decode differently. -/
def Obligations.EncodeOfDecodeIsFormatBits : Prop :=
  ∀ (c : Config) (f : Format) (w : Nat) (i : Instr), decode c f w = .instr i →
    (encode c i).1 = f ∧ (encode c i).2 = w % 2 ^ f.width c ∧ i.wellFormed = true

/-- Words written out from R102, R104 to R109 under the decided configuration (the spec's decisions D7, D10, D25). -/
def Obligations.TableWordsDecode : Prop :=
  decode Config.decided .rawin4 0b00000010 = .instr .speed ∧
  decode Config.decided (.state8 .inp) 0b00000101 = .instr .inToggleTemperatureMode ∧
  decode Config.decided (.state8 .mot) 0b00000010 = .instr .motOn ∧
  decode Config.decided (.state8 .osc) 0b00000100 = .instr .oscSweepRight ∧
  decode Config.decided (.state8 .disp) 0b00000010 = .instr .dispOutput ∧
  decode Config.decided (.state8 .out) 0b00000001 = .instr .outOutput ∧
  decode Config.decided .event 0b00000001 = .instr .schedTick ∧
  decode Config.decided .out8 0b00011011 = .instr (.outword 1 true false true true)

/-- R104 to R108, R111: a code that fits a state register is unrecognised exactly when it lies past the FSM's table (the
codes and the width are the spec's decision D7). -/
def Obligations.UnrecognisedCodesAreRejected : Prop :=
  ∀ (c : Config) (t : Task) (w : Nat), w < 2 ^ c.stateW →
    (decode c (.state8 t) w = .rejected (.unrecognisedState t w) ↔
      (match t with
        | .inp => 8
        | .mot => 3
        | .osc => 5
        | .disp => 3
        | .out => 2) ≤ w)

/-- R112 (the spec's decision D11): under the decided codes exactly the eleven values with two or more bits set match
none of the five codes. -/
def Obligations.MultiButtonValuesMatchNoCode : Prop :=
  ∀ r : Nibble, InputCode.ofRaw Config.decided r = none ↔
    r ∈ [0x3#4, 0x5#4, 0x6#4, 0x7#4, 0x9#4, 0xA#4, 0xB#4, 0xC#4, 0xD#4, 0xE#4, 0xF#4]

/-! ## The Input Interpreter -/

/-- R101: the snapshot is the complement of the port's low nibble, bit by bit; bits 7:4 do not matter. -/
def Obligations.SnapshotComplementsLowNibble : Prop :=
  ∀ (s : State) (i : Instr), i ∈ taskSteps .inp →
    ∃ t, exec i s = .next t ∧
      t.rawInput.setWidth 8 = (s.pinIn ^^^ 0xFF#8) &&& 0x0F#8 ∧
      (∀ k, k < 4 → t.rawInput.getLsbD k = !s.pinIn.getLsbD k) ∧
      (∀ p : Byte, p &&& 0x0F#8 = s.pinIn &&& 0x0F#8 →
        ∃ u, exec i { s with pinIn := p } = .next u ∧ u.rawInput = t.rawInput)

/-- R155 (the spec's decisions D11 and D12), R103: what a step from `Wait` does for every snapshot, the codes tested in
the order power, speed, oscillation, temperature mode. -/
def Obligations.WaitDecodesInPriorityOrder : Prop :=
  ∀ s : State,
    let r : Nibble := (~~~s.pinIn).setWidth 4
    exec .inWait s = .next
      (if r = s.cfg.codePower then
        (if s.power = false then
          { s with rawInput := r, stIn := 0x03, power := true, emitted := s.emitted ++ [.textUpdate .on] }
        else
          { s with rawInput := r, stIn := 0x02, power := false, emitted := s.emitted ++ [.textUpdate .off] })
      else if r = s.cfg.codeSpeed then
        { s with
          rawInput := r, stIn := 0x04
          speedIndex := (if s.temperatureMode = false then s.speedIndex + 1 else s.speedIndex)
          emitted := s.emitted ++ [.textUpdate .setSpeed] }
      else if r = s.cfg.codeOsc then
        { s with
          rawInput := r, stIn := 0x06, oscillating := !s.oscillating
          emitted := s.emitted ++ [.textUpdate .toggleOscillation] }
      else if r = s.cfg.codeTemp then
        { s with
          rawInput := r, stIn := 0x05, temperatureMode := !s.temperatureMode
          emitted := s.emitted ++ [.textUpdate .toggleTemperatureMode] }
      else { s with rawInput := r, stIn := 0x01 })

/-- R156: `Off` is entered from `Wait` on the power code with `power = true`, clears `power` and requests the text update,
and nothing else changes; it is left for `Press`, whatever the port shows. It is entered in no other way. -/
def Obligations.OffClearsPower : Prop :=
  (∀ s : State, (~~~s.pinIn).setWidth 4 = s.cfg.codePower → s.power = true →
    exec .inWait s = .next
      { s with
        rawInput := s.cfg.codePower, stIn := 0x02, power := false
        emitted := s.emitted ++ [.textUpdate .off] }) ∧
  (∀ s : State, exec .inOff s = .next { s with rawInput := (~~~s.pinIn).setWidth 4, stIn := 0x07 }) ∧
  (∀ (s t : State) (i : Instr), i ∈ taskSteps .inp → exec i s = .next t → t.stIn = 0x02 →
    i = .inWait ∧ (~~~s.pinIn).setWidth 4 = s.cfg.codePower ∧ s.power = true)

/-- R157: `On` is entered from `Wait` on the power code with `power = false`, sets `power` and requests the text update,
and nothing else changes; it is left for `Press`. It is entered in no other way. -/
def Obligations.OnSetsPower : Prop :=
  (∀ s : State, (~~~s.pinIn).setWidth 4 = s.cfg.codePower → s.power = false →
    exec .inWait s = .next
      { s with
        rawInput := s.cfg.codePower, stIn := 0x03, power := true
        emitted := s.emitted ++ [.textUpdate .on] }) ∧
  (∀ s : State, exec .inOn s = .next { s with rawInput := (~~~s.pinIn).setWidth 4, stIn := 0x07 }) ∧
  (∀ (s t : State) (i : Instr), i ∈ taskSteps .inp → exec i s = .next t → t.stIn = 0x03 →
    i = .inWait ∧ (~~~s.pinIn).setWidth 4 = s.cfg.codePower ∧ s.power = false)

/-- R158: `SetSpeed` is entered from `Wait` on the speed code; it advances `speedIndex` cyclically (3 wraps to 0) unless
`temperatureMode` is set, requests the text update in both cases, and changes nothing else; it is left for `Press`. -/
def Obligations.SetSpeedAdvancesCyclically : Prop :=
  (∀ s : State, s.cfg.WellFormed → (~~~s.pinIn).setWidth 4 = s.cfg.codeSpeed →
    ∃ v : Fin NSPEED,
      exec .inWait s = .next
        { s with
          rawInput := s.cfg.codeSpeed, stIn := 0x04, speedIndex := v
          emitted := s.emitted ++ [.textUpdate .setSpeed] } ∧
      (s.temperatureMode = true → v = s.speedIndex) ∧
      (s.temperatureMode = false → s.speedIndex.val + 1 ≥ NSPEED → v.val = 0) ∧
      (s.temperatureMode = false → s.speedIndex.val + 1 < NSPEED → v.val = s.speedIndex.val + 1)) ∧
  (∀ s : State, exec .inSetSpeed s = .next { s with rawInput := (~~~s.pinIn).setWidth 4, stIn := 0x07 }) ∧
  (∀ (s t : State) (i : Instr), i ∈ taskSteps .inp → exec i s = .next t → t.stIn = 0x04 →
    i = .inWait ∧ (~~~s.pinIn).setWidth 4 = s.cfg.codeSpeed)

/-- R159: `ToggleTemperatureMode` is entered from `Wait` on the temperature-mode code, flips `temperatureMode` and
requests the text update, and nothing else changes; it is left for `Press`. -/
def Obligations.TemperatureModeToggles : Prop :=
  (∀ s : State, s.cfg.WellFormed → (~~~s.pinIn).setWidth 4 = s.cfg.codeTemp →
    exec .inWait s = .next
      { s with
        rawInput := s.cfg.codeTemp, stIn := 0x05, temperatureMode := !s.temperatureMode
        emitted := s.emitted ++ [.textUpdate .toggleTemperatureMode] }) ∧
  (∀ s : State, exec .inToggleTemperatureMode s =
    .next { s with rawInput := (~~~s.pinIn).setWidth 4, stIn := 0x07 }) ∧
  (∀ (s t : State) (i : Instr), i ∈ taskSteps .inp → exec i s = .next t → t.stIn = 0x05 →
    i = .inWait ∧ (~~~s.pinIn).setWidth 4 = s.cfg.codeTemp)

/-- R160: `ToggleOscillation` is entered from `Wait` on the oscillation code, flips `oscillating` and requests the text
update, and nothing else changes; it is left for `Press`; and an Oscillator step in the same tick transaction sees the
new value: it ends in `Off` exactly when `oscillating` is false at the end of the transaction. -/
def Obligations.OscillationToggles : Prop :=
  (∀ s : State, s.cfg.WellFormed → (~~~s.pinIn).setWidth 4 = s.cfg.codeOsc →
    exec .inWait s = .next
      { s with
        rawInput := s.cfg.codeOsc, stIn := 0x06, oscillating := !s.oscillating
        emitted := s.emitted ++ [.textUpdate .toggleOscillation] }) ∧
  (∀ s : State, exec .inToggleOscillation s =
    .next { s with rawInput := (~~~s.pinIn).setWidth 4, stIn := 0x07 }) ∧
  (∀ (s t : State) (i : Instr), i ∈ taskSteps .inp → exec i s = .next t → t.stIn = 0x06 →
    i = .inWait ∧ (~~~s.pinIn).setWidth 4 = s.cfg.codeOsc) ∧
  (∀ s t : State, s.cfg.WellFormed → exec .schedTick s = .next t →
    s.cfg.period.osc ≤ (s.elapsed.osc + 1) % 2 ^ s.cfg.elapsedW →
    s.stOsc ∈ [0x01, 0x02, 0x03, 0x04] → (t.stOsc = 0x01 ↔ t.oscillating = false))

/-- R162: every action state goes to `Press`; `Press` stays until the snapshot is the idle code and then returns to
`Wait`; neither decodes, so only `rawInput` and the state register change. -/
def Obligations.PressWaitsForRelease : Prop :=
  (∀ (s : State) (i : Instr),
    i ∈ [Instr.inOff, Instr.inOn, Instr.inSetSpeed, Instr.inToggleTemperatureMode, Instr.inToggleOscillation] →
    exec i s = .next { s with rawInput := (~~~s.pinIn).setWidth 4, stIn := 0x07 }) ∧
  (∀ s : State, (~~~s.pinIn).setWidth 4 = s.cfg.codeIdle →
    exec .inPress s = .next { s with rawInput := s.cfg.codeIdle, stIn := 0x01 }) ∧
  (∀ s : State, (~~~s.pinIn).setWidth 4 ≠ s.cfg.codeIdle →
    exec .inPress s = .next { s with rawInput := (~~~s.pinIn).setWidth 4, stIn := 0x07 })

/-- R102, R155, under the model's reading of the `RAWIN4` rows (log entry 3, DESIGN CHOICE): an input code acts in `Wait`
as the table says. -/
def Obligations.InputCodesActFromWait : Prop :=
  ∀ s : State, s.cfg.WellFormed → s.stIn = 0x01 →
    exec .idle s = .next { s with rawInput := s.cfg.codeIdle } ∧
    (s.power = false → exec .power s = .next
      { s with
        rawInput := s.cfg.codePower, stIn := 0x03, power := true, emitted := s.emitted ++ [.textUpdate .on] }) ∧
    (s.power = true → exec .power s = .next
      { s with
        rawInput := s.cfg.codePower, stIn := 0x02, power := false
        emitted := s.emitted ++ [.textUpdate .off] }) ∧
    exec .speed s = .next
      { s with
        rawInput := s.cfg.codeSpeed, stIn := 0x04
        speedIndex := (if s.temperatureMode = false then s.speedIndex + 1 else s.speedIndex)
        emitted := s.emitted ++ [.textUpdate .setSpeed] } ∧
    exec .osc s = .next
      { s with
        rawInput := s.cfg.codeOsc, stIn := 0x06, oscillating := !s.oscillating
        emitted := s.emitted ++ [.textUpdate .toggleOscillation] } ∧
    exec .temp s = .next
      { s with
        rawInput := s.cfg.codeTemp, stIn := 0x05, temperatureMode := !s.temperatureMode
        emitted := s.emitted ++ [.textUpdate .toggleTemperatureMode] }

/-- R102, R162, under the model's reading of the `RAWIN4` rows (log entry 3, DESIGN CHOICE): in `Press` the idle code
returns to `Wait` and every button code stays. -/
def Obligations.InputCodesInPress : Prop :=
  ∀ s : State, s.cfg.WellFormed → s.stIn = 0x07 →
    exec .idle s = .next { s with rawInput := s.cfg.codeIdle, stIn := 0x01 } ∧
    exec .power s = .next { s with rawInput := s.cfg.codePower } ∧
    exec .speed s = .next { s with rawInput := s.cfg.codeSpeed } ∧
    exec .osc s = .next { s with rawInput := s.cfg.codeOsc } ∧
    exec .temp s = .next { s with rawInput := s.cfg.codeTemp }

/-- Log entry 3 (DESIGN CHOICE): an input code is the step of task 0 that finds this code on the port, in every state of
the FSM, an unrecognised one included. -/
def Obligations.InputCodeIsTheStepThatSamplesIt : Prop :=
  ∀ s : State,
    ((~~~s.pinIn).setWidth 4 = s.cfg.codeIdle → exec .idle s = runTask .inp s) ∧
    ((~~~s.pinIn).setWidth 4 = s.cfg.codePower → exec .power s = runTask .inp s) ∧
    ((~~~s.pinIn).setWidth 4 = s.cfg.codeSpeed → exec .speed s = runTask .inp s) ∧
    ((~~~s.pinIn).setWidth 4 = s.cfg.codeOsc → exec .osc s = runTask .inp s) ∧
    ((~~~s.pinIn).setWidth 4 = s.cfg.codeTemp → exec .temp s = runTask .inp s)

/-- R161 (b), a derived property of the spec: a step of the Input Interpreter changes at most one of the four mode
registers, and a step from any state but `Wait` changes none of them. -/
def Obligations.AtMostOneModeRegisterChanges : Prop :=
  ∀ (s t : State) (i : Instr), i ∈ taskSteps .inp → exec i s = .next t →
    let same (m : Fin 4) : Prop :=
      match m with
      | 0 => t.power = s.power
      | 1 => t.oscillating = s.oscillating
      | 2 => t.temperatureMode = s.temperatureMode
      | 3 => t.speedIndex = s.speedIndex
    (∃ m, ∀ m', m' ≠ m → same m') ∧ (i ≠ .inWait → ∀ m, same m)

/-! ## The Motor Duty FSM -/

/-- R182, R184 (the spec's decision D16 for the held `dutyCounter` and the wrap step): the step from `Off`. The increment at
the all-ones value wraps by the model's choice (log entry 10, DESIGN CHOICE). -/
def Obligations.MotorOffStep : Prop :=
  ∀ s : State,
    let d := (s.dutyCounter + 1) % 2 ^ s.cfg.dutyCtrW
    (s.power = false → exec .motOff s = .next { s with stMot := 0x01, motorEnabled := false }) ∧
    (s.power = true → d < s.cfg.dutyLowThreshold →
      exec .motOff s = .next { s with stMot := 0x02, dutyCounter := d, motorEnabled := false }) ∧
    (s.power = true → s.cfg.dutyLowThreshold ≤ d → d ≤ s.cfg.dutyTable.get s.speedIndex →
      exec .motOff s = .next { s with stMot := 0x02, dutyCounter := d, motorEnabled := true }) ∧
    (s.power = true → s.cfg.dutyLowThreshold ≤ d → s.cfg.dutyTable.get s.speedIndex < d →
      exec .motOff s = .next { s with stMot := 0x02, dutyCounter := 0 })

/-- R183, R184 (the spec's decision D16 for the held `dutyCounter` and the wrap step): the step from `On`. The increment at
the all-ones value wraps by the model's choice (log entry 10, DESIGN CHOICE). -/
def Obligations.MotorOnStep : Prop :=
  ∀ s : State,
    let d := (s.dutyCounter + 1) % 2 ^ s.cfg.dutyCtrW
    (s.power = false → exec .motOn s = .next { s with stMot := 0x01, motorEnabled := false }) ∧
    (s.power = true → d < s.cfg.dutyLowThreshold →
      exec .motOn s = .next { s with stMot := 0x02, dutyCounter := d, motorEnabled := false }) ∧
    (s.power = true → s.cfg.dutyLowThreshold ≤ d → d ≤ s.cfg.dutyTable.get s.speedIndex →
      exec .motOn s = .next { s with stMot := 0x02, dutyCounter := d, motorEnabled := true }) ∧
    (s.power = true → s.cfg.dutyLowThreshold ≤ d → s.cfg.dutyTable.get s.speedIndex < d →
      exec .motOn s = .next { s with stMot := 0x02, dutyCounter := 0 })

/-- R187 (d), a derived property of the spec: after any step of task 1 the duty counter is within the table. -/
def Obligations.DutyCounterStaysWithinTable : Prop :=
  ∀ s t : State, s.cfg.WellFormed → s.dutyCounter ≤ s.cfg.dutyTable.d3 → runTask .mot s = .next t →
    t.dutyCounter ≤ s.cfg.dutyTable.d3

/-- R186, a derived property of the spec: with power on, the speed constant and the counter at 0, the motor enable is low
for `T - 1` steps, high for the steps `T` to `D`, and high on the wrap step `D + 1`, which leaves the counter at 0 (the
enable is kept on the wrap step by the spec's decision D16). -/
def Obligations.MotorWaveform : Prop :=
  ∀ s : State, s.cfg.WellFormed → s.power = true → (s.stMot = 0x01 ∨ s.stMot = 0x02) → s.dutyCounter = 0 →
    (∀ k, 1 ≤ k → k ≤ s.cfg.dutyTable.get s.speedIndex →
      ∃ t, iterate (runTask .mot) k s = .next t ∧ t.stMot = 0x02 ∧ t.dutyCounter = k ∧
        t.motorEnabled = decide (s.cfg.dutyLowThreshold ≤ k)) ∧
    (∃ t, iterate (runTask .mot) (s.cfg.dutyTable.get s.speedIndex + 1) s = .next t ∧ t.stMot = 0x02 ∧
      t.dutyCounter = 0 ∧ t.motorEnabled = true)

/-! ## The Oscillator FSM -/

/-- R197, R198 (the spec's decisions D21 for the forced low level and D20 for the order inside the pulse generator): the step
from `Off`. An increment at the all-ones value wraps by the model's choice (log entry 10, DESIGN CHOICE). -/
def Obligations.OscillatorOffStep : Prop :=
  ∀ s : State,
    let p := if s.pulseCounter + 1 ≥ s.cfg.pulsePeriod then 0 else (s.pulseCounter + 1) % 2 ^ s.cfg.pulseCtrW
    (s.oscillating = false → exec .oscOff s = .next { s with stOsc := 0x01, servoPulseLevel := false }) ∧
    (s.oscillating = true → exec .oscOff s = .next
      { s with
        stOsc := 0x02, phaseElapsed := (s.phaseElapsed + 1) % 2 ^ s.cfg.phaseW
        pulseCounter := p, servoPulseLevel := decide (p ≤ s.cfg.widthLeft) })

/-- R198: the step from `SweepLeft`, `oscillating` tested first, the limit tested on the value before this step's
increment; and the action of `SweepLeft` in every step that enters it, from `Off`, from `Dwell` or from itself. The low level
on entering `Off` is the spec's decision D21, the order inside the pulse generator D20, and the wrap of an increment at the
all-ones value the model's choice (log entry 10, DESIGN CHOICE). -/
def Obligations.SweepLeftStep : Prop :=
  (∀ s : State,
    let p := if s.pulseCounter + 1 ≥ s.cfg.pulsePeriod then 0 else (s.pulseCounter + 1) % 2 ^ s.cfg.pulseCtrW
    let e := (s.phaseElapsed + 1) % 2 ^ s.cfg.phaseW
    (s.oscillating = false → exec .oscSweepLeft s = .next { s with stOsc := 0x01, servoPulseLevel := false }) ∧
    (s.oscillating = true → s.phaseElapsed > s.cfg.sweepLLimit →
      exec .oscSweepLeft s = .next { s with stOsc := 0x03, phaseElapsed := e, servoPulseLevel := false }) ∧
    (s.oscillating = true → s.phaseElapsed ≤ s.cfg.sweepLLimit →
      exec .oscSweepLeft s = .next
        { s with
          stOsc := 0x02, phaseElapsed := e, pulseCounter := p
          servoPulseLevel := decide (p ≤ s.cfg.widthLeft) })) ∧
  (∀ (s t : State) (i : Instr), i ∈ taskSteps .osc → exec i s = .next t → t.stOsc = 0x02 →
    t.phaseElapsed = (s.phaseElapsed + 1) % 2 ^ s.cfg.phaseW ∧
    t.pulseCounter =
      (if s.pulseCounter + 1 ≥ s.cfg.pulsePeriod then 0 else (s.pulseCounter + 1) % 2 ^ s.cfg.pulseCtrW) ∧
    t.servoPulseLevel = decide (t.pulseCounter ≤ s.cfg.widthLeft))

/-- R199 (the spec's decision D17 for the end of the second pause): the step from `Dwell`. The low level on entering `Off` is
the spec's decision D21, the pulse generator on entering a sweep D20, and the wrap of an increment at the all-ones value the
model's choice (log entry 10, DESIGN CHOICE). -/
def Obligations.DwellStep : Prop :=
  ∀ s : State, s.cfg.WellFormed →
    let p := if s.pulseCounter + 1 ≥ s.cfg.pulsePeriod then 0 else (s.pulseCounter + 1) % 2 ^ s.cfg.pulseCtrW
    let e := (s.phaseElapsed + 1) % 2 ^ s.cfg.phaseW
    (s.oscillating = false → exec .oscDwell s = .next { s with stOsc := 0x01, servoPulseLevel := false }) ∧
    (s.oscillating = true → s.phaseElapsed > s.cfg.dwellLimit →
      exec .oscDwell s = .next
        { s with
          stOsc := 0x04, phaseElapsed := e, pulseCounter := p
          servoPulseLevel := decide (p ≤ s.cfg.widthRight) }) ∧
    (s.oscillating = true → s.cfg.dwell2Limit < s.phaseElapsed → s.phaseElapsed ≤ s.cfg.sweepLLimit →
      exec .oscDwell s = .next
        { s with
          stOsc := 0x02, phaseElapsed := e, pulseCounter := p
          servoPulseLevel := decide (p ≤ s.cfg.widthLeft) }) ∧
    (s.oscillating = true →
      (s.phaseElapsed ≤ s.cfg.dwell2Limit ∨ s.cfg.sweepLLimit < s.phaseElapsed ∧ s.phaseElapsed ≤ s.cfg.dwellLimit) →
      exec .oscDwell s = .next { s with stOsc := 0x03, phaseElapsed := e, servoPulseLevel := false })

/-- R200: the step from `SweepRight`; leaving for `Dwell` resets `phaseElapsed`, so the increment of the same step leaves
1; leaving for `Off` does not; and the action of `SweepRight` in every step that enters it. The low level on entering `Off` is
the spec's decision D21, the order inside the pulse generator D20, and the wrap of an increment at the all-ones value the
model's choice (log entry 10, DESIGN CHOICE). -/
def Obligations.SweepRightStep : Prop :=
  (∀ s : State, s.cfg.WellFormed →
    let p := if s.pulseCounter + 1 ≥ s.cfg.pulsePeriod then 0 else (s.pulseCounter + 1) % 2 ^ s.cfg.pulseCtrW
    (s.oscillating = false → exec .oscSweepRight s = .next { s with stOsc := 0x01, servoPulseLevel := false }) ∧
    (s.oscillating = true → s.phaseElapsed > s.cfg.sweepRLimit →
      exec .oscSweepRight s = .next { s with stOsc := 0x03, phaseElapsed := 1, servoPulseLevel := false }) ∧
    (s.oscillating = true → s.phaseElapsed ≤ s.cfg.sweepRLimit →
      exec .oscSweepRight s = .next
        { s with
          stOsc := 0x04, phaseElapsed := (s.phaseElapsed + 1) % 2 ^ s.cfg.phaseW, pulseCounter := p
          servoPulseLevel := decide (p ≤ s.cfg.widthRight) })) ∧
  (∀ (s t : State) (i : Instr), i ∈ taskSteps .osc → exec i s = .next t → t.stOsc = 0x04 →
    t.phaseElapsed = (s.phaseElapsed + 1) % 2 ^ s.cfg.phaseW ∧
    t.pulseCounter =
      (if s.pulseCounter + 1 ≥ s.cfg.pulsePeriod then 0 else (s.pulseCounter + 1) % 2 ^ s.cfg.pulseCtrW) ∧
    t.servoPulseLevel = decide (t.pulseCounter ≤ s.cfg.widthRight))

/-- R210, a derived property of the spec: after the `j`-th step inside a sweep the pulse is high exactly when
`(c + j) mod PULSE_PERIOD` is at most the sweep's width, and the outer clock has advanced by `j` (the order inside
the generator is the spec's decision D20). -/
def Obligations.PulseTrainInsideSweep : Prop :=
  ∀ (s : State) (j : Nat), s.cfg.WellFormed → s.oscillating = true → s.pulseCounter < s.cfg.pulsePeriod → 1 ≤ j →
    (s.stOsc = 0x02 → s.phaseElapsed + j ≤ s.cfg.sweepLLimit + 1 →
      ∃ t, iterate (runTask .osc) j s = .next t ∧ t.stOsc = 0x02 ∧ t.phaseElapsed = s.phaseElapsed + j ∧
        t.pulseCounter = (s.pulseCounter + j) % s.cfg.pulsePeriod ∧
        t.servoPulseLevel = decide ((s.pulseCounter + j) % s.cfg.pulsePeriod ≤ s.cfg.widthLeft)) ∧
    (s.stOsc = 0x04 → s.phaseElapsed + j ≤ s.cfg.sweepRLimit + 1 →
      ∃ t, iterate (runTask .osc) j s = .next t ∧ t.stOsc = 0x04 ∧ t.phaseElapsed = s.phaseElapsed + j ∧
        t.pulseCounter = (s.pulseCounter + j) % s.cfg.pulsePeriod ∧
        t.servoPulseLevel = decide ((s.pulseCounter + j) % s.cfg.pulsePeriod ≤ s.cfg.widthRight))

/-- R207, a derived property of the spec: with `oscillating` false, every step but the one from `Start` enters `Off`, forces
the pulse low (the spec's decision D21) and runs neither clock. (The step from `Start` enters `Off` whatever `oscillating`
is.) -/
def Obligations.OscillatorStopsWithinOneStep : Prop :=
  ∀ (s : State) (i : Instr), i ∈ taskSteps .osc → s.oscillating = false →
    exec i s = .next { s with stOsc := 0x01, servoPulseLevel := false }

/-- R208 (the spec's decision D22): the Oscillator neither reads nor writes `power`. -/
def Obligations.OscillatorIgnoresPower : Prop :=
  ∀ (s t : State) (i : Instr) (b : Bool), i ∈ taskSteps .osc → exec i s = .next t →
    exec i { s with power := b } = .next { t with power := b }

/-- R202, R203 (the spec's decision D18), R11 (the wrap is log entry 10, DESIGN CHOICE): the outer clock advances by one in
exactly the steps whose entered state is `SweepLeft`, `Dwell` or `SweepRight`, from 0 when `SweepRight` goes to `Dwell`, and
holds in every other step. -/
def Obligations.PhaseClockAdvancesOnlyInActivePhases : Prop :=
  ∀ (s t : State) (i : Instr), i ∈ taskSteps .osc → exec i s = .next t →
    (t.stOsc ∈ [0x02, 0x03, 0x04] → ¬(i = .oscSweepRight ∧ t.stOsc = 0x03) →
      t.phaseElapsed = (s.phaseElapsed + 1) % 2 ^ s.cfg.phaseW) ∧
    (i = .oscSweepRight → t.stOsc = 0x03 → t.phaseElapsed = 1 % 2 ^ s.cfg.phaseW) ∧
    (t.stOsc ∉ [0x02, 0x03, 0x04] → t.phaseElapsed = s.phaseElapsed)

/-- Log entry 8 (DESIGN CHOICE): the bound `phaseElapsed <= SWEEP_R_LIMIT + 1` that R205 (and with it R11 and R28) derives is
not kept by R197 and R211: a restart from `Off` with the clock at that bound passes it. -/
def Obligations.RestartPassesTheBoundOfThePhaseClock : Prop :=
  ∀ s : State, s.cfg.WellFormed → s.oscillating = true → s.phaseElapsed = s.cfg.sweepRLimit + 1 →
    s.cfg.sweepRLimit + 2 < 2 ^ s.cfg.phaseW →
    ∃ t, exec .oscOff s = .next t ∧ t.stOsc = 0x02 ∧ t.phaseElapsed = s.cfg.sweepRLimit + 2

/-- R205, R211, derived properties of the spec, as far as they follow from R197 to R203: while `oscillating` stays true, (1)
from any active state past the last limit the reset of the outer clock is reached within three steps; (2) from an arbitrary
value `v` the clock never passes `max(v, SWEEP_R_LIMIT) + 3`; (3) from `Off` or `Start` with the clock at most at
`SWEEP_L_LIMIT`, as right after reset, it never passes `SWEEP_R_LIMIT + 1`. (That the bound (3) is not kept when the
oscillation is switched off and on is log entry 8; the limits of `Dwell` are the spec's decision D17; below the width no
increment wraps, log entry 10.) -/
def Obligations.PhaseClockResetsWithinThreeSteps : Prop :=
  ∀ s : State, s.cfg.WellFormed → s.oscillating = true →
    (s.stOsc ∈ [0x02, 0x03, 0x04] → s.cfg.sweepRLimit < s.phaseElapsed → s.phaseElapsed + 3 < 2 ^ s.cfg.phaseW →
      ∃ k t, k ≤ 3 ∧ iterate (runTask .osc) k s = .next t ∧ t.stOsc = 0x03 ∧ t.phaseElapsed = 1) ∧
    (max s.phaseElapsed s.cfg.sweepRLimit + 3 < 2 ^ s.cfg.phaseW →
      ∀ n, ∃ t, iterate (runTask .osc) n s = .next t ∧
        t.phaseElapsed ≤ max s.phaseElapsed s.cfg.sweepRLimit + 3) ∧
    (s.stOsc ∈ [0x00, 0x01] → s.phaseElapsed ≤ s.cfg.sweepLLimit →
      ∀ n, ∃ t, iterate (runTask .osc) n s = .next t ∧ t.phaseElapsed ≤ s.cfg.sweepRLimit + 1)

/-! ## The Display Animation FSM -/

/-- R222 (the spec's decision D24: `Dwell` has no action), R223: the step from `Dwell`. -/
def Obligations.DisplayDwellStep : Prop :=
  ∀ s : State,
    (s.power = false → exec .dispDwell s = .next { s with stDisp := 0x01 }) ∧
    (s.power = true → exec .dispDwell s = .next
      { s with
        stDisp := 0x02, frameIndex := s.frameIndex ^^^ 1#1
        emitted := s.emitted ++ [.bitmapRedraw (s.frameIndex ^^^ 1#1)] })

/-- R223: the step from `Output`, and the action of `Output` in every step that enters it: one toggle, then the redraw
request with the toggled index; no other step touches `frameIndex`, and every step after the one from `Start` enters
`Output` exactly when `power` is true. The redraw with the toggled index, and that a step entering `Dwell` leaves
`frameIndex` and the events alone, are the spec's decision D24. -/
def Obligations.DisplayOutputStep : Prop :=
  (∀ s : State,
    (s.power = false → exec .dispOutput s = .next { s with stDisp := 0x01 }) ∧
    (s.power = true → exec .dispOutput s = .next
      { s with
        stDisp := 0x02, frameIndex := s.frameIndex ^^^ 1#1
        emitted := s.emitted ++ [.bitmapRedraw (s.frameIndex ^^^ 1#1)] })) ∧
  (∀ (s t : State) (i : Instr), i ∈ taskSteps .disp → exec i s = .next t →
    (t.stDisp = 0x02 → t.frameIndex = s.frameIndex ^^^ 1#1 ∧
      t.emitted = s.emitted ++ [.bitmapRedraw t.frameIndex]) ∧
    (t.stDisp ≠ 0x02 → t.frameIndex = s.frameIndex ∧ t.emitted = s.emitted) ∧
    (i ≠ .dispStart → (t.stDisp = 0x02 ↔ s.power = true)))

/-! ## The Output Composer -/

/-- R232, with the bit layout of R109 (bits 7:6 by the spec's decision D25): both steps of the Output Composer write the
packed word, also when it is unchanged, and emit it; nothing else changes. -/
def Obligations.ComposerWritesPackedWord : Prop :=
  ∀ (s : State) (i : Instr), i ∈ taskSteps .out →
    ∃ w : Byte, exec i s = .next { s with stOut := 0x01, portOut := w, emitted := s.emitted ++ [.outWrite w] } ∧
      w.getLsbD 0 = s.power ∧ w.getLsbD 1 = s.oscillating ∧ w.getLsbD 2 = s.servoPulseLevel ∧
      w.getLsbD 3 = s.motorEnabled ∧ (s.cfg.dirCode ≤ 3 → (w.extractLsb' 4 2).toNat = s.cfg.dirCode) ∧
      w.extractLsb' 6 2 = 0#2

/-- R109, R72 under the model's reading of the `OUTWORD` row (log entry 3, DESIGN CHOICE): the word with the given fields is
written to the port; and the Output Composer's step from `Output` is exactly that write, with the fields of R233. -/
def Obligations.OutwordWritesItsFields : Prop :=
  (∀ (s : State) (dir : Nat) (m sv o p : Bool), dir ≤ 3 →
    ∃ w : Byte, exec (.outword dir m sv o p) s =
        .next { s with portOut := w, emitted := s.emitted ++ [.outWrite w] } ∧
      w.toNat = 16 * dir + 8 * m.toNat + 4 * sv.toNat + 2 * o.toNat + p.toNat) ∧
  (∀ s : State, s.stOut = 0x01 →
    exec .outOutput s =
      exec (.outword s.cfg.dirCode s.motorEnabled s.servoPulseLevel s.oscillating s.power) s)

/-! ## Start and the unrecognised state -/

/-- R138, R163, R185, R201, R225, R234 (the spec's decision D8): the step of a task whose state register holds an unrecognised
code writes the code of `Start` and does nothing else; the Input Interpreter has taken its snapshot first. -/
def Obligations.UnrecognisedStateReturnsToStart : Prop :=
  ∀ s : State,
    (8 ≤ s.st .inp → runTask .inp s = .next { s with rawInput := (~~~s.pinIn).setWidth 4, stIn := 0x00 }) ∧
    (3 ≤ s.st .mot → runTask .mot s = .next { s with stMot := 0x00 }) ∧
    (5 ≤ s.st .osc → runTask .osc s = .next { s with stOsc := 0x00 }) ∧
    (3 ≤ s.st .disp → runTask .disp s = .next { s with stDisp := 0x00 }) ∧
    (2 ≤ s.st .out → runTask .out s = .next { s with stOut := 0x00 })

/-- R140: `Start` is the reset state of every FSM; the step that leaves it goes to the first working state, whatever the
registers hold, and performs that state's action; a step from a recognised state never enters `Start`, a step from an
unrecognised one always does, with no action (the spec's decision D8). That the Oscillator's step from `Start` forces the pulse
low is the spec's decision D21. -/
def Obligations.StartIsInitialOnly : Prop :=
  (∀ t : Task, State.reset.st t = 0x00) ∧
  (∀ s : State, exec .inStart s = .next { s with rawInput := (~~~s.pinIn).setWidth 4, stIn := 0x01 }) ∧
  (∀ s : State, exec .motStart s = .next { s with stMot := 0x01, motorEnabled := false }) ∧
  (∀ s : State, exec .oscStart s = .next { s with stOsc := 0x01, servoPulseLevel := false }) ∧
  (∀ s : State, exec .dispStart s = .next { s with stDisp := 0x01 }) ∧
  (∀ s : State, ∃ w : Byte,
    exec .outStart s = .next { s with stOut := 0x01, portOut := w, emitted := s.emitted ++ [.outWrite w] } ∧
    exec .outOutput s = .next { s with stOut := 0x01, portOut := w, emitted := s.emitted ++ [.outWrite w] }) ∧
  (∀ (k : Task) (s t : State), s.cfg.WellFormed → runTask k s = .next t →
    (stateInstr k (s.st k) ≠ none → t.st k ≠ 0x00) ∧
    (stateInstr k (s.st k) = none → t.st k = 0x00 ∧ t.emitted = s.emitted))

/-! ## The Scheduler -/

/-- R131 to R134 (the spec's decisions D3 and D32): the tick transaction completes from every state, consumes the tick,
and leaves every counter at 0 where its task was due and incremented where it was not. The increment at the all-ones value wraps
by the model's choice (log entry 10, DESIGN CHOICE). -/
def Obligations.TickTransactionCompletes : Prop :=
  ∀ s : State, ∃ t, exec .schedTick s = .next t ∧ t.tickFlag = false ∧ t.outside = s.outside ∧
    ∀ k : Task,
      let e := (s.elapsed.get k + 1) % 2 ^ s.cfg.elapsedW
      (s.cfg.period.get k ≤ e → t.elapsed.get k = 0) ∧ (e < s.cfg.period.get k → t.elapsed.get k = e)

/-- R135: the tasks are tested and stepped in the order 0 to 4, each at most once, each on the state the one before it
left; and a task with period 1 is due in the tick transaction whenever its counter stands where a transaction leaves it. The
test `>=` and the clear after the step are the spec's decision D3, the clear of the flag before the increments D32, the list of
events emptied at the start log entry 16 (DESIGN CHOICE), and the wrap of an increment at the all-ones value log entry 10
(DESIGN CHOICE). -/
def Obligations.DueTasksRunOnceInOrder : Prop :=
  (∀ s : State, ∃ s1 s2 s3 s4 s5 : State,
    let s0 : State := { s with
      tickFlag := false, emitted := []
      elapsed := s.elapsed.map (fun n => (n + 1) % 2 ^ s.cfg.elapsedW) }
    let slot (k : Task) (a b : State) : Prop :=
      (s.cfg.period.get k ≤ (s.elapsed.get k + 1) % 2 ^ s.cfg.elapsedW →
        ∃ u, runTask k a = .next u ∧ b = { u with elapsed := u.elapsed.set k 0 }) ∧
      (¬ s.cfg.period.get k ≤ (s.elapsed.get k + 1) % 2 ^ s.cfg.elapsedW → b = a)
    slot .inp s0 s1 ∧ slot .mot s1 s2 ∧ slot .osc s2 s3 ∧ slot .disp s3 s4 ∧ slot .out s4 s5 ∧
      exec .schedTick s = .next s5) ∧
  (∀ (s : State) (k : Task), s.cfg.WellFormed → s.cfg.period.get k = 1 → s.elapsed.get k < s.cfg.period.get k →
    s.consumeTick.incrementElapsed.due k = true)

/-- R134 with R32: over a whole tick transaction nothing happens to the registers of a task that is not due. -/
def Obligations.UndueTaskIsUntouched : Prop :=
  ∀ s t : State, exec .schedTick s = .next t →
    let undue (k : Task) : Prop := (s.elapsed.get k + 1) % 2 ^ s.cfg.elapsedW < s.cfg.period.get k
    (undue .inp → t.inputRegs = s.inputRegs) ∧
    (undue .mot → t.motorRegs = s.motorRegs) ∧
    (undue .osc → t.oscillatorRegs = s.oscillatorRegs) ∧
    (undue .disp → t.displayRegs = s.displayRegs) ∧
    (undue .out → t.composerRegs = s.composerRegs)

/-- R32, the frame of every instruction but the tick transaction: the steps of one task (and the input codes, and the output
word) leave the registers of every other writer, the constants and everything outside the core as they were. -/
def Obligations.EveryRegisterHasOneWriter : Prop :=
  ∀ (s t : State) (i : Instr), exec i s = .next t →
    (i ≠ .schedTick → t.schedulerRegs = s.schedulerRegs ∧ t.outside = s.outside) ∧
    (i ≠ .schedTick → i ∉ taskSteps .inp → i ∉ inputCodes → t.inputRegs = s.inputRegs) ∧
    (i ≠ .schedTick → i ∉ taskSteps .mot → t.motorRegs = s.motorRegs) ∧
    (i ≠ .schedTick → i ∉ taskSteps .osc → t.oscillatorRegs = s.oscillatorRegs) ∧
    (i ≠ .schedTick → i ∉ taskSteps .disp → t.displayRegs = s.displayRegs) ∧
    (i ≠ .schedTick → i ∉ taskSteps .out → t.stOut = s.stOut) ∧
    (i ≠ .schedTick → i ∉ taskSteps .out → (∀ d m sv o p, i ≠ .outword d m sv o p) → t.portOut = s.portOut)

/-- R235, a derived property of the spec: with `PERIOD[4] = 1`, at the end of every tick transaction the port shows the word
of the registers as they are at the end of that transaction (layout by D25). -/
def Obligations.PortShowsEndOfTransaction : Prop :=
  ∀ s t : State, s.cfg.WellFormed → s.cfg.period.out = 1 → s.elapsed.out = 0 → OutState.ofCode (s.st .out) ≠ none →
    exec .schedTick s = .next t →
    t.portOut.getLsbD 0 = t.power ∧ t.portOut.getLsbD 1 = t.oscillating ∧
    t.portOut.getLsbD 2 = t.servoPulseLevel ∧ t.portOut.getLsbD 3 = t.motorEnabled ∧
    (t.portOut.extractLsb' 4 2).toNat = t.cfg.dirCode ∧ t.portOut.extractLsb' 6 2 = 0#2

/-- R183 in the form of conflict C13: with `PERIOD[1] = 1`, at the end of every tick transaction the motor is not enabled
while `power` is false. -/
def Obligations.MotorOffAtEndOfTransaction : Prop :=
  ∀ s t : State, s.cfg.WellFormed → s.cfg.period.mot = 1 → s.elapsed.mot = 0 → MotState.ofCode (s.st .mot) ≠ none →
    exec .schedTick s = .next t → t.power = false → t.motorEnabled = false

/-- R207 with R135 (the forced low level is the spec's decision D21): with `PERIOD[2] = 1`, at the end of every tick
transaction the servo line is low while `oscillating` is false. -/
def Obligations.ServoLowAtEndOfTransaction : Prop :=
  ∀ s t : State, s.cfg.WellFormed → s.cfg.period.osc = 1 → s.elapsed.osc = 0 → OscState.ofCode (s.st .osc) ≠ none →
    exec .schedTick s = .next t → t.oscillating = false → t.servoPulseLevel = false

/-- R87 (the spec's decision D30), R243: in a tick transaction in which task 0 is not due the byte on the port is not
observed. -/
def Obligations.UnsampledPortIsNotObserved : Prop :=
  ∀ (s t : State) (p : Byte), (s.elapsed.inp + 1) % 2 ^ s.cfg.elapsedW < s.cfg.period.inp →
    exec .schedTick s = .next t → exec .schedTick { s with pinIn := p } = .next { t with pinIn := p }

/-- R101, R253: in any tick transaction bits 7:4 of the port are not observed. -/
def Obligations.UpperPortBitsAreNotObserved : Prop :=
  ∀ (s t : State) (p : Byte), p &&& 0x0F#8 = s.pinIn &&& 0x0F#8 →
    exec .schedTick s = .next t → exec .schedTick { s with pinIn := p } = .next { t with pinIn := p }

/-- R141, a derived property of the spec: from counters at 0, after `n` tick transactions every counter stands at `n mod
PERIOD[i]`, so that task `i` steps in the transactions whose number is a multiple of its period (counters and due test by
the spec's decision D3). -/
def Obligations.StepTimesFollowPeriods : Prop :=
  ∀ (s : State) (n : Nat), s.cfg.WellFormed → (∀ k : Task, s.elapsed.get k = 0) →
    ∃ t, iterate (exec .schedTick) n s = .next t ∧ t.cfg = s.cfg ∧
      ∀ k : Task, t.elapsed.get k = n % s.cfg.period.get k ∧
        ((n + 1) % s.cfg.period.get k = 0 ↔
          s.cfg.period.get k ≤ (t.elapsed.get k + 1) % 2 ^ s.cfg.elapsedW)

/-! ## The machine -/

/-- R118, R131: when it is the core's turn in its loop and the poll decodes to an instruction, the step runs it; the only
thing a step adds is that the move is taken off the list. -/
def Obligations.StepRunsTheFetchedInstruction : Prop :=
  ∀ (s : State) (i : Instr), s.cfg.WellFormed → s.boot = .running →
    decode s.cfg .event s.tickFlag.toNat = .instr i →
    (s.agenda = [] → step s = exec i s) ∧
    (∀ rest, s.agenda = .core :: rest → step s = exec i { s with agenda := rest }) ∧ i = .schedTick

/-- R118, R134, R137: inside a tick transaction, a task whose state register decodes to an instruction runs it, and if the
task is due its counter is cleared after it. -/
def Obligations.TaskRunsTheDecodedStep : Prop :=
  ∀ (s : State) (k : Task) (i : Instr), decode s.cfg (.state8 k) (s.st k) = .instr i →
    runTask k s = exec i s ∧
    (s.cfg.period.get k ≤ s.elapsed.get k → ∀ t, exec i s = .next t →
      dispatchTask k s = .next { t with elapsed := t.elapsed.set k 0 }) ∧
    (s.elapsed.get k < s.cfg.period.get k → dispatchTask k s = .next s)

/-- R132: while `tickFlag` is 0 and no other agent moves, the core's polls change nothing, for ever; when it is 1 the core
makes exactly the tick transaction, which leaves the flag at 0. (That a poll without a tick is a step is the model's choice,
log entry 17.) -/
def Obligations.CoreWaitsForTheTick : Prop :=
  ∀ s : State, s.cfg.WellFormed → s.boot = .running → s.agenda = [] →
    (s.tickFlag = false → ∀ n, core.run n s = .next s) ∧
    (s.tickFlag = true → ∃ t, step s = .next t ∧ exec .schedTick s = .next t ∧ t.tickFlag = false)

/-- R46, R280 (the spec's decision D5), R252: a tick sets the flag of a started Tick Source and nothing else; a second tick
before the first was consumed changes nothing; before `start()` a tick changes nothing. -/
def Obligations.LateTickIsLost : Prop :=
  ∀ (s : State) (rest : List Move), s.cfg.WellFormed →
    (s.agenda = .tick :: rest → s.tickStarted = true → step s = .next { s with tickFlag := true, agenda := rest }) ∧
    (s.agenda = .tick :: .tick :: rest → s.tickStarted = true →
      core.run 2 s = .next { s with tickFlag := true, agenda := rest }) ∧
    (s.agenda = .tick :: rest → s.tickStarted = false → step s = .next { s with agenda := rest })

/-- R71, R88: presenting a byte changes the port and nothing else (that it is a listed move is the model's choice, log
entry 1). -/
def Obligations.PresentingAByteChangesOnlyThePort : Prop :=
  ∀ (s : State) (b : Byte) (rest : List Move), s.cfg.WellFormed → s.agenda = .present b :: rest →
    step s = .next { s with pinIn := b, agenda := rest }

/-- R273, R252 (the spec's decision D32): in every state that stands before the boot sequence the core configures the Tick
Source with the open parameter, then starts it, and then waits, for ever if no other agent moves. (That a poll without a tick is
a step is the model's choice, log entry 17.) Right after reset, and after a reset of a running block in any configuration and
with any byte on the port, the block stands there. -/
def Obligations.BootConfiguresThenStarts : Prop :=
  (∀ s : State, s.cfg.WellFormed → s.agenda = [] → s.boot = .configure →
    step s = .next { s with tickPeriod := Config.tickPeriodUnits, boot := .start }) ∧
  (∀ s : State, s.cfg.WellFormed → s.agenda = [] → s.boot = .start →
    step s = .next { s with tickStarted := true, boot := .running }) ∧
  (∀ s : State, s.cfg.WellFormed → s.agenda = [] → s.boot = .configure → s.tickFlag = false →
    ∀ n, core.run (n + 2) s = .next
      { s with tickPeriod := Config.tickPeriodUnits, tickStarted := true, boot := .running }) ∧
  (∀ (c : Config) (p : Byte) (ms : List Move),
    (State.resetWith c p ms).boot = .configure ∧ (State.resetWith c p ms).tickFlag = false) ∧
  State.reset.cfg.WellFormed ∧ State.reset.agenda = [] ∧ State.reset.boot = .configure

/-- R270, R271, R60 (the spec's decisions D27, D3 and D26): reset puts every element of state at its reset value and the
core back at the boot sequence. -/
def Obligations.ResetRestoresEveryElement : Prop :=
  ∀ (s : State) (rest : List Move), s.cfg.WellFormed → s.agenda = .reset :: rest →
    ∃ t, step s = .next t ∧
      t.power = false ∧ t.oscillating = false ∧ t.temperatureMode = false ∧ t.speedIndex = 0 ∧ t.rawInput = 0#4 ∧
      t.dutyCounter = 0 ∧ t.motorEnabled = false ∧ t.phaseElapsed = 0 ∧ t.pulseCounter = 0 ∧
      t.servoPulseLevel = false ∧ t.frameIndex = 0#1 ∧ (∀ k : Task, t.st k = 0x00 ∧ t.elapsed.get k = 0) ∧
      t.tickFlag = false ∧ t.portOut = 0x00#8 ∧ t.boot = .configure ∧ t.cfg = s.cfg ∧ t.pinIn = s.pinIn ∧
      t.agenda = rest

/-- R60 (the spec's decisions D27, D3 and D26): the values of the block's state right after reset. -/
def Obligations.ResetStateValues : Prop :=
  State.reset.inputRegs = (false, false, false, 0, 0#4, 0x00) ∧
  State.reset.motorRegs = (0, false, 0x00) ∧
  State.reset.oscillatorRegs = (0, 0, false, 0x00) ∧
  State.reset.displayRegs = (0#1, 0x00) ∧
  State.reset.composerRegs = (0x00#8, 0x00) ∧
  State.reset.schedulerRegs = (⟨0, 0, 0, 0, 0⟩, false)

/-- R240, R136: with a well-formed configuration no state stops the machine. For states that no run reaches this rests on the
model's choices that an increment at the all-ones value wraps (log entry 10, DESIGN CHOICE), and everywhere on the choice that a
poll without a tick is a step (log entry 17, DESIGN CHOICE). -/
def Obligations.NoStepStops : Prop :=
  ∀ s : State, s.cfg.WellFormed → ∃ t, step s = .next t

/-- R9 (its clauses are the spec's own, and the bound on `STATE_W` is the model's choice, log entry 21): a configuration that is
not well-formed is given no meaning. -/
def Obligations.IllFormedConfigurationIsRefused : Prop :=
  ∀ s : State, ¬ s.cfg.WellFormed → step s = .refused .configNotWellFormed

/-- The invariant of a run holds right after reset, and the outer clock is within the bound of R205 there (the reset values are
the spec's decisions D27, D3 and D26; the Tick Source is at rest by the model's reading, log entry 5; the bound of each phase is
log entry 8). -/
def Obligations.ResetMeetsTheInvariant : Prop := State.reset.Inv ∧ State.reset.PhaseInRange

/-- R11, R24, R26, R28, R29, R40, R45, R111, R113, R205, R252: every step from every state that meets the invariant answers a
state that meets it, whichever agent moves. And from every such state in which the outer clock is within the bounds of its
phase, the clock is at most `SWEEP_R_LIMIT + 1` after the step, and it is within the bounds of its phase again, unless in this
very step the oscillation was switched off with the clock above `SWEEP_R_LIMIT - 2`. (That R205's bound has this one exception
is log entry 8, DESIGN CHOICE: there R197 to R203 and D18 are followed. The wrap of a counter is log entry 10, what a
reset leaves log entries 5, 12 and 15.) -/
def Obligations.EveryStepKeepsTheInvariant : Prop :=
  ∀ s t : State, s.Inv → step s = .next t →
    t.Inv ∧
    (s.PhaseInRange →
      t.phaseElapsed ≤ t.cfg.sweepRLimit + 1 ∧ (t.PhaseInRange ∨ s.StoppedLate t))

/-- R50, R51, R252: no step changes a constant; the Tick Source's period changes only in the step that makes the boot operation
`configure`, or a reset. (A reset gives it the model's reset value, log entry 9.) -/
def Obligations.ConstantsNeverChange : Prop :=
  ∀ s t : State, step s = .next t →
    t.cfg = s.cfg ∧
    (t.tickPeriod = s.tickPeriod ∨
      (s.boot = .configure ∧ (s.agenda = [] ∨ ∃ rest, s.agenda = .core :: rest)) ∨
      ∃ rest, s.agenda = .reset :: rest)
end

