-- ==== Sys2Proof/Laws/Decode.lean ====
section
/-! SUPPORT. The small lemmas of the encodings: codes and states correspond, the raw code of the port byte, the bits of the
output word. -/

namespace Sys2Proof

/-! ### State codes (R104 to R108) -/

@[simp] theorem InState.ofCode_code (st : InState) : InState.ofCode st.code = some st := by cases st <;> rfl

@[simp] theorem MotState.ofCode_code (st : MotState) : MotState.ofCode st.code = some st := by cases st <;> rfl

@[simp] theorem OscState.ofCode_code (st : OscState) : OscState.ofCode st.code = some st := by cases st <;> rfl

@[simp] theorem DispState.ofCode_code (st : DispState) : DispState.ofCode st.code = some st := by cases st <;> rfl

@[simp] theorem OutState.ofCode_code (st : OutState) : OutState.ofCode st.code = some st := by cases st <;> rfl

theorem InState.eq_code_of_ofCode {n : Nat} {st : InState} (h : InState.ofCode n = some st) : n = st.code := by
  unfold InState.ofCode at h
  split at h <;> cases h <;> rfl

/-- The codes of R104 to R108 fit every state register of a well-formed configuration. -/
theorem InState.code_lt {c : Config} (h : c.WfStateWidth) (st : InState) : st.code < 2 ^ c.stateW := by
  refine Nat.lt_of_le_of_lt ?_ h
  cases st <;> decide

theorem MotState.eq_code_of_ofCode {n : Nat} {st : MotState} (h : MotState.ofCode n = some st) : n = st.code := by
  unfold MotState.ofCode at h
  split at h <;> cases h <;> rfl

/-- The codes of R104 to R108 fit every state register of a well-formed configuration. -/
theorem MotState.code_lt {c : Config} (h : c.WfStateWidth) (st : MotState) : st.code < 2 ^ c.stateW := by
  refine Nat.lt_of_le_of_lt ?_ h
  cases st <;> decide

theorem OscState.eq_code_of_ofCode {n : Nat} {st : OscState} (h : OscState.ofCode n = some st) : n = st.code := by
  unfold OscState.ofCode at h
  split at h <;> cases h <;> rfl

/-- The codes of R104 to R108 fit every state register of a well-formed configuration. -/
theorem OscState.code_lt {c : Config} (h : c.WfStateWidth) (st : OscState) : st.code < 2 ^ c.stateW := by
  refine Nat.lt_of_le_of_lt ?_ h
  cases st <;> decide

theorem DispState.eq_code_of_ofCode {n : Nat} {st : DispState} (h : DispState.ofCode n = some st) : n = st.code := by
  unfold DispState.ofCode at h
  split at h <;> cases h <;> rfl

/-- The codes of R104 to R108 fit every state register of a well-formed configuration. -/
theorem DispState.code_lt {c : Config} (h : c.WfStateWidth) (st : DispState) : st.code < 2 ^ c.stateW := by
  refine Nat.lt_of_le_of_lt ?_ h
  cases st <;> decide

theorem OutState.eq_code_of_ofCode {n : Nat} {st : OutState} (h : OutState.ofCode n = some st) : n = st.code := by
  unfold OutState.ofCode at h
  split at h <;> cases h <;> rfl

/-- The codes of R104 to R108 fit every state register of a well-formed configuration. -/
theorem OutState.code_lt {c : Config} (h : c.WfStateWidth) (st : OutState) : st.code < 2 ^ c.stateW := by
  refine Nat.lt_of_le_of_lt ?_ h
  cases st <;> decide

theorem InState.code_inj {a b : InState} (h : a.code = b.code) : a = b := by
  simpa using congrArg InState.ofCode h

theorem MotState.code_inj {a b : MotState} (h : a.code = b.code) : a = b := by
  simpa using congrArg MotState.ofCode h

theorem OscState.code_inj {a b : OscState} (h : a.code = b.code) : a = b := by
  simpa using congrArg OscState.ofCode h

theorem DispState.code_inj {a b : DispState} (h : a.code = b.code) : a = b := by
  simpa using congrArg DispState.ofCode h

/-- A register that holds the code of a state is read as that state, in a well-formed configuration. -/
theorem OutState.ofCode_code_mod {c : Config} (h : c.WfStateWidth) (st : OutState) :
    OutState.ofCode (st.code % 2 ^ c.stateW) = some st := by
  rw [Nat.mod_eq_of_lt (OutState.code_lt h st), OutState.ofCode_code]

theorem DispState.ofCode_code_mod {c : Config} (h : c.WfStateWidth) (st : DispState) :
    DispState.ofCode (st.code % 2 ^ c.stateW) = some st := by
  rw [Nat.mod_eq_of_lt (DispState.code_lt h st), DispState.ofCode_code]

theorem OscState.ofCode_code_mod {c : Config} (h : c.WfStateWidth) (st : OscState) :
    OscState.ofCode (st.code % 2 ^ c.stateW) = some st := by
  rw [Nat.mod_eq_of_lt (OscState.code_lt h st), OscState.ofCode_code]

theorem MotState.ofCode_code_mod {c : Config} (h : c.WfStateWidth) (st : MotState) :
    MotState.ofCode (st.code % 2 ^ c.stateW) = some st := by
  rw [Nat.mod_eq_of_lt (MotState.code_lt h st), MotState.ofCode_code]

theorem InState.ofCode_code_mod {c : Config} (h : c.WfStateWidth) (st : InState) :
    InState.ofCode (st.code % 2 ^ c.stateW) = some st := by
  rw [Nat.mod_eq_of_lt (InState.code_lt h st), InState.ofCode_code]

/-- What a state register selects, if anything, is a step whose encoding is the register's code (R118). -/
theorem stateInstr_some {t : Task} {n : Nat} {i : Instr} (h : stateInstr t n = some i) (c : Config) :
    encode c i = (.state8 t, n) ∧ i.wellFormed = true := by
  cases t <;> simp only [stateInstr, Option.map_eq_some_iff] at h <;> obtain ⟨st, h, rfl⟩ := h
  case inp => rw [InState.eq_code_of_ofCode h]; cases st <;> exact ⟨rfl, rfl⟩
  case mot => rw [MotState.eq_code_of_ofCode h]; cases st <;> exact ⟨rfl, rfl⟩
  case osc => rw [OscState.eq_code_of_ofCode h]; cases st <;> exact ⟨rfl, rfl⟩
  case disp => rw [DispState.eq_code_of_ofCode h]; cases st <;> exact ⟨rfl, rfl⟩
  case out => rw [OutState.eq_code_of_ofCode h]; cases st <;> exact ⟨rfl, rfl⟩

/-! ### The raw input code (R101) -/

theorem rawOfPin_eq (p : Byte) : rawOfPin p = (~~~p).setWidth 4 := rfl

theorem rawOfPin_setWidth (p : Byte) : (rawOfPin p).setWidth 8 = (p ^^^ 0xFF#8) &&& 0x0F#8 := by
  revert p; decide

theorem rawOfPin_of_low_nibble {p q : Byte} (h : p &&& 0x0F#8 = q &&& 0x0F#8) : rawOfPin p = rawOfPin q := by
  have key : ∀ x : Byte, rawOfPin x = ~~~((x &&& 0x0F#8).setWidth 4) := by decide
  rw [key, key, h]

/-- An input code whose raw value is one of the five is found again, in a well-formed configuration (R9 (f), R103). -/
theorem InputCode.ofRaw_raw {c : Config} (h : c.WfCodes) (k : InputCode) : InputCode.ofRaw c (k.raw c) = some k := by
  obtain ⟨-, h1, h2, h3, h4, h5, h6, h7, h8, h9, h10⟩ := h
  cases k <;>
    simp [InputCode.ofRaw, InputCode.raw, h1, h2, h3, h4, h5.symm, h6.symm, h7.symm, h8.symm, h9.symm, h10.symm]

/-- What a raw value matches has that raw value (R103). -/
theorem InputCode.raw_of_ofRaw {c : Config} {r : Nibble} {k : InputCode} (h : InputCode.ofRaw c r = some k) :
    k.raw c = r := by
  unfold InputCode.ofRaw at h
  repeat' split at h
  all_goals first | (cases h; simp_all [InputCode.raw]) | cases h

/-! ### The output word (R109) -/

theorem outWord_bits (d : BitVec 2) (m s o p : Bool) :
    (outWord d m s o p).getLsbD 0 = p ∧ (outWord d m s o p).getLsbD 1 = o ∧ (outWord d m s o p).getLsbD 2 = s ∧
      (outWord d m s o p).getLsbD 3 = m ∧ (outWord d m s o p).extractLsb' 4 2 = d ∧
      (outWord d m s o p).extractLsb' 6 2 = 0#2 := by
  revert d m s o p; decide

theorem outWord_toNat (d : BitVec 2) (m s o p : Bool) :
    (outWord d m s o p).toNat = 16 * d.toNat + 8 * m.toNat + 4 * s.toNat + 2 * o.toNat + p.toNat := by
  revert d m s o p; decide

end Sys2Proof
end

