-- ==== Sys2Proof/Laws/State.lean ====
section
/-! SUPPORT. One lemma per field per update of the state, true by the definition of the update, so that no later proof
unfolds a record update. -/

namespace Sys2Proof.Machine

/-! ### State registers (`st`, `setSt`) -/

/-- A code that fits the register is read as it stands. -/
theorem State.st_eq_of_lt {s : State} {t : Task} (h : s.stField t < 2 ^ s.cfg.stateW) : s.st t = s.stField t :=
  Nat.mod_eq_of_lt h

theorem State.st_lt (s : State) (t : Task) : s.st t < 2 ^ s.cfg.stateW := Nat.mod_lt _ (Nat.two_pow_pos _)

@[simp] theorem State.setSt_stField (s : State) (t u : Task) (c : Nat) :
    (s.setSt t c).stField u = if u = t then c else s.stField u := by cases t <;> cases u <;> rfl

@[simp] theorem State.setSt_cfg (s : State) (t : Task) (c : Nat) : (s.setSt t c).cfg = s.cfg := by cases t <;> rfl
@[simp] theorem State.setSt_power (s : State) (t : Task) (c : Nat) :
    (s.setSt t c).power = s.power := by cases t <;> rfl
@[simp] theorem State.setSt_oscillating (s : State) (t : Task) (c : Nat) :
    (s.setSt t c).oscillating = s.oscillating := by cases t <;> rfl
@[simp] theorem State.setSt_temperatureMode (s : State) (t : Task) (c : Nat) :
    (s.setSt t c).temperatureMode = s.temperatureMode := by cases t <;> rfl
@[simp] theorem State.setSt_speedIndex (s : State) (t : Task) (c : Nat) :
    (s.setSt t c).speedIndex = s.speedIndex := by cases t <;> rfl
@[simp] theorem State.setSt_rawInput (s : State) (t : Task) (c : Nat) :
    (s.setSt t c).rawInput = s.rawInput := by cases t <;> rfl
@[simp] theorem State.setSt_dutyCounter (s : State) (t : Task) (c : Nat) :
    (s.setSt t c).dutyCounter = s.dutyCounter := by cases t <;> rfl
@[simp] theorem State.setSt_motorEnabled (s : State) (t : Task) (c : Nat) :
    (s.setSt t c).motorEnabled = s.motorEnabled := by cases t <;> rfl
@[simp] theorem State.setSt_phaseElapsed (s : State) (t : Task) (c : Nat) :
    (s.setSt t c).phaseElapsed = s.phaseElapsed := by cases t <;> rfl
@[simp] theorem State.setSt_pulseCounter (s : State) (t : Task) (c : Nat) :
    (s.setSt t c).pulseCounter = s.pulseCounter := by cases t <;> rfl
@[simp] theorem State.setSt_servoPulseLevel (s : State) (t : Task) (c : Nat) :
    (s.setSt t c).servoPulseLevel = s.servoPulseLevel := by cases t <;> rfl
@[simp] theorem State.setSt_frameIndex (s : State) (t : Task) (c : Nat) :
    (s.setSt t c).frameIndex = s.frameIndex := by cases t <;> rfl
@[simp] theorem State.setSt_stIn (s : State) (t : Task) (c : Nat) :
    (s.setSt t c).stIn = if t = .inp then c else s.stIn := by cases t <;> rfl
@[simp] theorem State.setSt_stMot (s : State) (t : Task) (c : Nat) :
    (s.setSt t c).stMot = if t = .mot then c else s.stMot := by cases t <;> rfl
@[simp] theorem State.setSt_stOsc (s : State) (t : Task) (c : Nat) :
    (s.setSt t c).stOsc = if t = .osc then c else s.stOsc := by cases t <;> rfl
@[simp] theorem State.setSt_stDisp (s : State) (t : Task) (c : Nat) :
    (s.setSt t c).stDisp = if t = .disp then c else s.stDisp := by cases t <;> rfl
@[simp] theorem State.setSt_stOut (s : State) (t : Task) (c : Nat) :
    (s.setSt t c).stOut = if t = .out then c else s.stOut := by cases t <;> rfl
@[simp] theorem State.setSt_elapsed (s : State) (t : Task) (c : Nat) :
    (s.setSt t c).elapsed = s.elapsed := by cases t <;> rfl
@[simp] theorem State.setSt_tickFlag (s : State) (t : Task) (c : Nat) :
    (s.setSt t c).tickFlag = s.tickFlag := by cases t <;> rfl
@[simp] theorem State.setSt_portOut (s : State) (t : Task) (c : Nat) :
    (s.setSt t c).portOut = s.portOut := by cases t <;> rfl
@[simp] theorem State.setSt_pinIn (s : State) (t : Task) (c : Nat) :
    (s.setSt t c).pinIn = s.pinIn := by cases t <;> rfl
@[simp] theorem State.setSt_tickPeriod (s : State) (t : Task) (c : Nat) :
    (s.setSt t c).tickPeriod = s.tickPeriod := by cases t <;> rfl
@[simp] theorem State.setSt_tickStarted (s : State) (t : Task) (c : Nat) :
    (s.setSt t c).tickStarted = s.tickStarted := by cases t <;> rfl
@[simp] theorem State.setSt_boot (s : State) (t : Task) (c : Nat) : (s.setSt t c).boot = s.boot := by cases t <;> rfl
@[simp] theorem State.setSt_emitted (s : State) (t : Task) (c : Nat) :
    (s.setSt t c).emitted = s.emitted := by cases t <;> rfl
@[simp] theorem State.setSt_agenda (s : State) (t : Task) (c : Nat) :
    (s.setSt t c).agenda = s.agenda := by cases t <;> rfl

/-! ### `incrementElapsed` -/

@[simp] theorem State.incrementElapsed_cfg (s : State) : s.incrementElapsed.cfg = s.cfg := rfl
@[simp] theorem State.incrementElapsed_power (s : State) : s.incrementElapsed.power = s.power := rfl
@[simp] theorem State.incrementElapsed_oscillating (s : State) : s.incrementElapsed.oscillating = s.oscillating := rfl
@[simp] theorem State.incrementElapsed_temperatureMode (s : State) :
    s.incrementElapsed.temperatureMode = s.temperatureMode := rfl
@[simp] theorem State.incrementElapsed_speedIndex (s : State) : s.incrementElapsed.speedIndex = s.speedIndex := rfl
@[simp] theorem State.incrementElapsed_rawInput (s : State) : s.incrementElapsed.rawInput = s.rawInput := rfl
@[simp] theorem State.incrementElapsed_dutyCounter (s : State) : s.incrementElapsed.dutyCounter = s.dutyCounter := rfl
@[simp] theorem State.incrementElapsed_motorEnabled (s : State) :
    s.incrementElapsed.motorEnabled = s.motorEnabled := rfl
@[simp] theorem State.incrementElapsed_phaseElapsed (s : State) :
    s.incrementElapsed.phaseElapsed = s.phaseElapsed := rfl
@[simp] theorem State.incrementElapsed_pulseCounter (s : State) :
    s.incrementElapsed.pulseCounter = s.pulseCounter := rfl
@[simp] theorem State.incrementElapsed_servoPulseLevel (s : State) :
    s.incrementElapsed.servoPulseLevel = s.servoPulseLevel := rfl
@[simp] theorem State.incrementElapsed_frameIndex (s : State) : s.incrementElapsed.frameIndex = s.frameIndex := rfl
@[simp] theorem State.incrementElapsed_stIn (s : State) : s.incrementElapsed.stIn = s.stIn := rfl
@[simp] theorem State.incrementElapsed_stMot (s : State) : s.incrementElapsed.stMot = s.stMot := rfl
@[simp] theorem State.incrementElapsed_stOsc (s : State) : s.incrementElapsed.stOsc = s.stOsc := rfl
@[simp] theorem State.incrementElapsed_stDisp (s : State) : s.incrementElapsed.stDisp = s.stDisp := rfl
@[simp] theorem State.incrementElapsed_stOut (s : State) : s.incrementElapsed.stOut = s.stOut := rfl
@[simp] theorem State.incrementElapsed_elapsed (s : State) :
    s.incrementElapsed.elapsed = s.elapsed.map (incr s.cfg.elapsedW) := rfl
@[simp] theorem State.incrementElapsed_tickFlag (s : State) : s.incrementElapsed.tickFlag = s.tickFlag := rfl
@[simp] theorem State.incrementElapsed_portOut (s : State) : s.incrementElapsed.portOut = s.portOut := rfl
@[simp] theorem State.incrementElapsed_pinIn (s : State) : s.incrementElapsed.pinIn = s.pinIn := rfl
@[simp] theorem State.incrementElapsed_tickPeriod (s : State) : s.incrementElapsed.tickPeriod = s.tickPeriod := rfl
@[simp] theorem State.incrementElapsed_tickStarted (s : State) : s.incrementElapsed.tickStarted = s.tickStarted := rfl
@[simp] theorem State.incrementElapsed_boot (s : State) : s.incrementElapsed.boot = s.boot := rfl
@[simp] theorem State.incrementElapsed_emitted (s : State) : s.incrementElapsed.emitted = s.emitted := rfl
@[simp] theorem State.incrementElapsed_agenda (s : State) : s.incrementElapsed.agenda = s.agenda := rfl

/-! ### `clearElapsed` -/

@[simp] theorem State.clearElapsed_cfg (s : State) (t : Task) : (s.clearElapsed t).cfg = s.cfg := rfl
@[simp] theorem State.clearElapsed_power (s : State) (t : Task) : (s.clearElapsed t).power = s.power := rfl
@[simp] theorem State.clearElapsed_oscillating (s : State) (t : Task) :
    (s.clearElapsed t).oscillating = s.oscillating := rfl
@[simp] theorem State.clearElapsed_temperatureMode (s : State) (t : Task) :
    (s.clearElapsed t).temperatureMode = s.temperatureMode := rfl
@[simp] theorem State.clearElapsed_speedIndex (s : State) (t : Task) :
    (s.clearElapsed t).speedIndex = s.speedIndex := rfl
@[simp] theorem State.clearElapsed_rawInput (s : State) (t : Task) : (s.clearElapsed t).rawInput = s.rawInput := rfl
@[simp] theorem State.clearElapsed_dutyCounter (s : State) (t : Task) :
    (s.clearElapsed t).dutyCounter = s.dutyCounter := rfl
@[simp] theorem State.clearElapsed_motorEnabled (s : State) (t : Task) :
    (s.clearElapsed t).motorEnabled = s.motorEnabled := rfl
@[simp] theorem State.clearElapsed_phaseElapsed (s : State) (t : Task) :
    (s.clearElapsed t).phaseElapsed = s.phaseElapsed := rfl
@[simp] theorem State.clearElapsed_pulseCounter (s : State) (t : Task) :
    (s.clearElapsed t).pulseCounter = s.pulseCounter := rfl
@[simp] theorem State.clearElapsed_servoPulseLevel (s : State) (t : Task) :
    (s.clearElapsed t).servoPulseLevel = s.servoPulseLevel := rfl
@[simp] theorem State.clearElapsed_frameIndex (s : State) (t : Task) :
    (s.clearElapsed t).frameIndex = s.frameIndex := rfl
@[simp] theorem State.clearElapsed_stIn (s : State) (t : Task) : (s.clearElapsed t).stIn = s.stIn := rfl
@[simp] theorem State.clearElapsed_stMot (s : State) (t : Task) : (s.clearElapsed t).stMot = s.stMot := rfl
@[simp] theorem State.clearElapsed_stOsc (s : State) (t : Task) : (s.clearElapsed t).stOsc = s.stOsc := rfl
@[simp] theorem State.clearElapsed_stDisp (s : State) (t : Task) : (s.clearElapsed t).stDisp = s.stDisp := rfl
@[simp] theorem State.clearElapsed_stOut (s : State) (t : Task) : (s.clearElapsed t).stOut = s.stOut := rfl
@[simp] theorem State.clearElapsed_elapsed (s : State) (t : Task) :
    (s.clearElapsed t).elapsed = s.elapsed.set t 0 := rfl
@[simp] theorem State.clearElapsed_tickFlag (s : State) (t : Task) : (s.clearElapsed t).tickFlag = s.tickFlag := rfl
@[simp] theorem State.clearElapsed_portOut (s : State) (t : Task) : (s.clearElapsed t).portOut = s.portOut := rfl
@[simp] theorem State.clearElapsed_pinIn (s : State) (t : Task) : (s.clearElapsed t).pinIn = s.pinIn := rfl
@[simp] theorem State.clearElapsed_tickPeriod (s : State) (t : Task) :
    (s.clearElapsed t).tickPeriod = s.tickPeriod := rfl
@[simp] theorem State.clearElapsed_tickStarted (s : State) (t : Task) :
    (s.clearElapsed t).tickStarted = s.tickStarted := rfl
@[simp] theorem State.clearElapsed_boot (s : State) (t : Task) : (s.clearElapsed t).boot = s.boot := rfl
@[simp] theorem State.clearElapsed_emitted (s : State) (t : Task) : (s.clearElapsed t).emitted = s.emitted := rfl
@[simp] theorem State.clearElapsed_agenda (s : State) (t : Task) : (s.clearElapsed t).agenda = s.agenda := rfl

/-! ### `emit` -/

@[simp] theorem State.emit_cfg (s : State) (e : Event) : (s.emit e).cfg = s.cfg := rfl
@[simp] theorem State.emit_power (s : State) (e : Event) : (s.emit e).power = s.power := rfl
@[simp] theorem State.emit_oscillating (s : State) (e : Event) : (s.emit e).oscillating = s.oscillating := rfl
@[simp] theorem State.emit_temperatureMode (s : State) (e : Event) :
    (s.emit e).temperatureMode = s.temperatureMode := rfl
@[simp] theorem State.emit_speedIndex (s : State) (e : Event) : (s.emit e).speedIndex = s.speedIndex := rfl
@[simp] theorem State.emit_rawInput (s : State) (e : Event) : (s.emit e).rawInput = s.rawInput := rfl
@[simp] theorem State.emit_dutyCounter (s : State) (e : Event) : (s.emit e).dutyCounter = s.dutyCounter := rfl
@[simp] theorem State.emit_motorEnabled (s : State) (e : Event) : (s.emit e).motorEnabled = s.motorEnabled := rfl
@[simp] theorem State.emit_phaseElapsed (s : State) (e : Event) : (s.emit e).phaseElapsed = s.phaseElapsed := rfl
@[simp] theorem State.emit_pulseCounter (s : State) (e : Event) : (s.emit e).pulseCounter = s.pulseCounter := rfl
@[simp] theorem State.emit_servoPulseLevel (s : State) (e : Event) :
    (s.emit e).servoPulseLevel = s.servoPulseLevel := rfl
@[simp] theorem State.emit_frameIndex (s : State) (e : Event) : (s.emit e).frameIndex = s.frameIndex := rfl
@[simp] theorem State.emit_stIn (s : State) (e : Event) : (s.emit e).stIn = s.stIn := rfl
@[simp] theorem State.emit_stMot (s : State) (e : Event) : (s.emit e).stMot = s.stMot := rfl
@[simp] theorem State.emit_stOsc (s : State) (e : Event) : (s.emit e).stOsc = s.stOsc := rfl
@[simp] theorem State.emit_stDisp (s : State) (e : Event) : (s.emit e).stDisp = s.stDisp := rfl
@[simp] theorem State.emit_stOut (s : State) (e : Event) : (s.emit e).stOut = s.stOut := rfl
@[simp] theorem State.emit_elapsed (s : State) (e : Event) : (s.emit e).elapsed = s.elapsed := rfl
@[simp] theorem State.emit_tickFlag (s : State) (e : Event) : (s.emit e).tickFlag = s.tickFlag := rfl
@[simp] theorem State.emit_portOut (s : State) (e : Event) : (s.emit e).portOut = s.portOut := rfl
@[simp] theorem State.emit_pinIn (s : State) (e : Event) : (s.emit e).pinIn = s.pinIn := rfl
@[simp] theorem State.emit_tickPeriod (s : State) (e : Event) : (s.emit e).tickPeriod = s.tickPeriod := rfl
@[simp] theorem State.emit_tickStarted (s : State) (e : Event) : (s.emit e).tickStarted = s.tickStarted := rfl
@[simp] theorem State.emit_boot (s : State) (e : Event) : (s.emit e).boot = s.boot := rfl
@[simp] theorem State.emit_emitted (s : State) (e : Event) : (s.emit e).emitted = s.emitted ++ [e] := rfl
@[simp] theorem State.emit_agenda (s : State) (e : Event) : (s.emit e).agenda = s.agenda := rfl

/-! ### `portWrite` -/

@[simp] theorem State.portWrite_cfg (s : State) (v : Byte) : (s.portWrite v).cfg = s.cfg := rfl
@[simp] theorem State.portWrite_power (s : State) (v : Byte) : (s.portWrite v).power = s.power := rfl
@[simp] theorem State.portWrite_oscillating (s : State) (v : Byte) :
    (s.portWrite v).oscillating = s.oscillating := rfl
@[simp] theorem State.portWrite_temperatureMode (s : State) (v : Byte) :
    (s.portWrite v).temperatureMode = s.temperatureMode := rfl
@[simp] theorem State.portWrite_speedIndex (s : State) (v : Byte) : (s.portWrite v).speedIndex = s.speedIndex := rfl
@[simp] theorem State.portWrite_rawInput (s : State) (v : Byte) : (s.portWrite v).rawInput = s.rawInput := rfl
@[simp] theorem State.portWrite_dutyCounter (s : State) (v : Byte) :
    (s.portWrite v).dutyCounter = s.dutyCounter := rfl
@[simp] theorem State.portWrite_motorEnabled (s : State) (v : Byte) :
    (s.portWrite v).motorEnabled = s.motorEnabled := rfl
@[simp] theorem State.portWrite_phaseElapsed (s : State) (v : Byte) :
    (s.portWrite v).phaseElapsed = s.phaseElapsed := rfl
@[simp] theorem State.portWrite_pulseCounter (s : State) (v : Byte) :
    (s.portWrite v).pulseCounter = s.pulseCounter := rfl
@[simp] theorem State.portWrite_servoPulseLevel (s : State) (v : Byte) :
    (s.portWrite v).servoPulseLevel = s.servoPulseLevel := rfl
@[simp] theorem State.portWrite_frameIndex (s : State) (v : Byte) : (s.portWrite v).frameIndex = s.frameIndex := rfl
@[simp] theorem State.portWrite_stIn (s : State) (v : Byte) : (s.portWrite v).stIn = s.stIn := rfl
@[simp] theorem State.portWrite_stMot (s : State) (v : Byte) : (s.portWrite v).stMot = s.stMot := rfl
@[simp] theorem State.portWrite_stOsc (s : State) (v : Byte) : (s.portWrite v).stOsc = s.stOsc := rfl
@[simp] theorem State.portWrite_stDisp (s : State) (v : Byte) : (s.portWrite v).stDisp = s.stDisp := rfl
@[simp] theorem State.portWrite_stOut (s : State) (v : Byte) : (s.portWrite v).stOut = s.stOut := rfl
@[simp] theorem State.portWrite_elapsed (s : State) (v : Byte) : (s.portWrite v).elapsed = s.elapsed := rfl
@[simp] theorem State.portWrite_tickFlag (s : State) (v : Byte) : (s.portWrite v).tickFlag = s.tickFlag := rfl
@[simp] theorem State.portWrite_portOut (s : State) (v : Byte) : (s.portWrite v).portOut = v := rfl
@[simp] theorem State.portWrite_pinIn (s : State) (v : Byte) : (s.portWrite v).pinIn = s.pinIn := rfl
@[simp] theorem State.portWrite_tickPeriod (s : State) (v : Byte) : (s.portWrite v).tickPeriod = s.tickPeriod := rfl
@[simp] theorem State.portWrite_tickStarted (s : State) (v : Byte) :
    (s.portWrite v).tickStarted = s.tickStarted := rfl
@[simp] theorem State.portWrite_boot (s : State) (v : Byte) : (s.portWrite v).boot = s.boot := rfl
@[simp] theorem State.portWrite_emitted (s : State) (v : Byte) :
    (s.portWrite v).emitted = s.emitted ++ [.outWrite v] := rfl
@[simp] theorem State.portWrite_agenda (s : State) (v : Byte) : (s.portWrite v).agenda = s.agenda := rfl

/-! ### `consumeTick` -/

@[simp] theorem State.consumeTick_cfg (s : State) : s.consumeTick.cfg = s.cfg := rfl
@[simp] theorem State.consumeTick_power (s : State) : s.consumeTick.power = s.power := rfl
@[simp] theorem State.consumeTick_oscillating (s : State) : s.consumeTick.oscillating = s.oscillating := rfl
@[simp] theorem State.consumeTick_temperatureMode (s : State) :
    s.consumeTick.temperatureMode = s.temperatureMode := rfl
@[simp] theorem State.consumeTick_speedIndex (s : State) : s.consumeTick.speedIndex = s.speedIndex := rfl
@[simp] theorem State.consumeTick_rawInput (s : State) : s.consumeTick.rawInput = s.rawInput := rfl
@[simp] theorem State.consumeTick_dutyCounter (s : State) : s.consumeTick.dutyCounter = s.dutyCounter := rfl
@[simp] theorem State.consumeTick_motorEnabled (s : State) : s.consumeTick.motorEnabled = s.motorEnabled := rfl
@[simp] theorem State.consumeTick_phaseElapsed (s : State) : s.consumeTick.phaseElapsed = s.phaseElapsed := rfl
@[simp] theorem State.consumeTick_pulseCounter (s : State) : s.consumeTick.pulseCounter = s.pulseCounter := rfl
@[simp] theorem State.consumeTick_servoPulseLevel (s : State) :
    s.consumeTick.servoPulseLevel = s.servoPulseLevel := rfl
@[simp] theorem State.consumeTick_frameIndex (s : State) : s.consumeTick.frameIndex = s.frameIndex := rfl
@[simp] theorem State.consumeTick_stIn (s : State) : s.consumeTick.stIn = s.stIn := rfl
@[simp] theorem State.consumeTick_stMot (s : State) : s.consumeTick.stMot = s.stMot := rfl
@[simp] theorem State.consumeTick_stOsc (s : State) : s.consumeTick.stOsc = s.stOsc := rfl
@[simp] theorem State.consumeTick_stDisp (s : State) : s.consumeTick.stDisp = s.stDisp := rfl
@[simp] theorem State.consumeTick_stOut (s : State) : s.consumeTick.stOut = s.stOut := rfl
@[simp] theorem State.consumeTick_elapsed (s : State) : s.consumeTick.elapsed = s.elapsed := rfl
@[simp] theorem State.consumeTick_tickFlag (s : State) : s.consumeTick.tickFlag = false := rfl
@[simp] theorem State.consumeTick_portOut (s : State) : s.consumeTick.portOut = s.portOut := rfl
@[simp] theorem State.consumeTick_pinIn (s : State) : s.consumeTick.pinIn = s.pinIn := rfl
@[simp] theorem State.consumeTick_tickPeriod (s : State) : s.consumeTick.tickPeriod = s.tickPeriod := rfl
@[simp] theorem State.consumeTick_tickStarted (s : State) : s.consumeTick.tickStarted = s.tickStarted := rfl
@[simp] theorem State.consumeTick_boot (s : State) : s.consumeTick.boot = s.boot := rfl
@[simp] theorem State.consumeTick_emitted (s : State) : s.consumeTick.emitted = [] := rfl
@[simp] theorem State.consumeTick_agenda (s : State) : s.consumeTick.agenda = s.agenda := rfl

/-! ### `snapshot` -/

@[simp] theorem State.snapshot_cfg (s : State) (raw : Nibble) : (s.snapshot raw).cfg = s.cfg := rfl
@[simp] theorem State.snapshot_power (s : State) (raw : Nibble) : (s.snapshot raw).power = s.power := rfl
@[simp] theorem State.snapshot_oscillating (s : State) (raw : Nibble) :
    (s.snapshot raw).oscillating = s.oscillating := rfl
@[simp] theorem State.snapshot_temperatureMode (s : State) (raw : Nibble) :
    (s.snapshot raw).temperatureMode = s.temperatureMode := rfl
@[simp] theorem State.snapshot_speedIndex (s : State) (raw : Nibble) :
    (s.snapshot raw).speedIndex = s.speedIndex := rfl
@[simp] theorem State.snapshot_rawInput (s : State) (raw : Nibble) : (s.snapshot raw).rawInput = raw := rfl
@[simp] theorem State.snapshot_dutyCounter (s : State) (raw : Nibble) :
    (s.snapshot raw).dutyCounter = s.dutyCounter := rfl
@[simp] theorem State.snapshot_motorEnabled (s : State) (raw : Nibble) :
    (s.snapshot raw).motorEnabled = s.motorEnabled := rfl
@[simp] theorem State.snapshot_phaseElapsed (s : State) (raw : Nibble) :
    (s.snapshot raw).phaseElapsed = s.phaseElapsed := rfl
@[simp] theorem State.snapshot_pulseCounter (s : State) (raw : Nibble) :
    (s.snapshot raw).pulseCounter = s.pulseCounter := rfl
@[simp] theorem State.snapshot_servoPulseLevel (s : State) (raw : Nibble) :
    (s.snapshot raw).servoPulseLevel = s.servoPulseLevel := rfl
@[simp] theorem State.snapshot_frameIndex (s : State) (raw : Nibble) :
    (s.snapshot raw).frameIndex = s.frameIndex := rfl
@[simp] theorem State.snapshot_stIn (s : State) (raw : Nibble) : (s.snapshot raw).stIn = s.stIn := rfl
@[simp] theorem State.snapshot_stMot (s : State) (raw : Nibble) : (s.snapshot raw).stMot = s.stMot := rfl
@[simp] theorem State.snapshot_stOsc (s : State) (raw : Nibble) : (s.snapshot raw).stOsc = s.stOsc := rfl
@[simp] theorem State.snapshot_stDisp (s : State) (raw : Nibble) : (s.snapshot raw).stDisp = s.stDisp := rfl
@[simp] theorem State.snapshot_stOut (s : State) (raw : Nibble) : (s.snapshot raw).stOut = s.stOut := rfl
@[simp] theorem State.snapshot_elapsed (s : State) (raw : Nibble) : (s.snapshot raw).elapsed = s.elapsed := rfl
@[simp] theorem State.snapshot_tickFlag (s : State) (raw : Nibble) : (s.snapshot raw).tickFlag = s.tickFlag := rfl
@[simp] theorem State.snapshot_portOut (s : State) (raw : Nibble) : (s.snapshot raw).portOut = s.portOut := rfl
@[simp] theorem State.snapshot_pinIn (s : State) (raw : Nibble) : (s.snapshot raw).pinIn = s.pinIn := rfl
@[simp] theorem State.snapshot_tickPeriod (s : State) (raw : Nibble) :
    (s.snapshot raw).tickPeriod = s.tickPeriod := rfl
@[simp] theorem State.snapshot_tickStarted (s : State) (raw : Nibble) :
    (s.snapshot raw).tickStarted = s.tickStarted := rfl
@[simp] theorem State.snapshot_boot (s : State) (raw : Nibble) : (s.snapshot raw).boot = s.boot := rfl
@[simp] theorem State.snapshot_emitted (s : State) (raw : Nibble) : (s.snapshot raw).emitted = s.emitted := rfl
@[simp] theorem State.snapshot_agenda (s : State) (raw : Nibble) : (s.snapshot raw).agenda = s.agenda := rfl

/-! ### `phaseTick` -/

@[simp] theorem State.phaseTick_cfg (s : State) : s.phaseTick.cfg = s.cfg := rfl
@[simp] theorem State.phaseTick_power (s : State) : s.phaseTick.power = s.power := rfl
@[simp] theorem State.phaseTick_oscillating (s : State) : s.phaseTick.oscillating = s.oscillating := rfl
@[simp] theorem State.phaseTick_temperatureMode (s : State) : s.phaseTick.temperatureMode = s.temperatureMode := rfl
@[simp] theorem State.phaseTick_speedIndex (s : State) : s.phaseTick.speedIndex = s.speedIndex := rfl
@[simp] theorem State.phaseTick_rawInput (s : State) : s.phaseTick.rawInput = s.rawInput := rfl
@[simp] theorem State.phaseTick_dutyCounter (s : State) : s.phaseTick.dutyCounter = s.dutyCounter := rfl
@[simp] theorem State.phaseTick_motorEnabled (s : State) : s.phaseTick.motorEnabled = s.motorEnabled := rfl
@[simp] theorem State.phaseTick_phaseElapsed (s : State) :
    s.phaseTick.phaseElapsed = incr s.cfg.phaseW s.phaseElapsed := rfl
@[simp] theorem State.phaseTick_pulseCounter (s : State) : s.phaseTick.pulseCounter = s.pulseCounter := rfl
@[simp] theorem State.phaseTick_servoPulseLevel (s : State) : s.phaseTick.servoPulseLevel = s.servoPulseLevel := rfl
@[simp] theorem State.phaseTick_frameIndex (s : State) : s.phaseTick.frameIndex = s.frameIndex := rfl
@[simp] theorem State.phaseTick_stIn (s : State) : s.phaseTick.stIn = s.stIn := rfl
@[simp] theorem State.phaseTick_stMot (s : State) : s.phaseTick.stMot = s.stMot := rfl
@[simp] theorem State.phaseTick_stOsc (s : State) : s.phaseTick.stOsc = s.stOsc := rfl
@[simp] theorem State.phaseTick_stDisp (s : State) : s.phaseTick.stDisp = s.stDisp := rfl
@[simp] theorem State.phaseTick_stOut (s : State) : s.phaseTick.stOut = s.stOut := rfl
@[simp] theorem State.phaseTick_elapsed (s : State) : s.phaseTick.elapsed = s.elapsed := rfl
@[simp] theorem State.phaseTick_tickFlag (s : State) : s.phaseTick.tickFlag = s.tickFlag := rfl
@[simp] theorem State.phaseTick_portOut (s : State) : s.phaseTick.portOut = s.portOut := rfl
@[simp] theorem State.phaseTick_pinIn (s : State) : s.phaseTick.pinIn = s.pinIn := rfl
@[simp] theorem State.phaseTick_tickPeriod (s : State) : s.phaseTick.tickPeriod = s.tickPeriod := rfl
@[simp] theorem State.phaseTick_tickStarted (s : State) : s.phaseTick.tickStarted = s.tickStarted := rfl
@[simp] theorem State.phaseTick_boot (s : State) : s.phaseTick.boot = s.boot := rfl
@[simp] theorem State.phaseTick_emitted (s : State) : s.phaseTick.emitted = s.emitted := rfl
@[simp] theorem State.phaseTick_agenda (s : State) : s.phaseTick.agenda = s.agenda := rfl

/-! ### `phaseReset` -/

@[simp] theorem State.phaseReset_cfg (s : State) : s.phaseReset.cfg = s.cfg := rfl
@[simp] theorem State.phaseReset_power (s : State) : s.phaseReset.power = s.power := rfl
@[simp] theorem State.phaseReset_oscillating (s : State) : s.phaseReset.oscillating = s.oscillating := rfl
@[simp] theorem State.phaseReset_temperatureMode (s : State) : s.phaseReset.temperatureMode = s.temperatureMode := rfl
@[simp] theorem State.phaseReset_speedIndex (s : State) : s.phaseReset.speedIndex = s.speedIndex := rfl
@[simp] theorem State.phaseReset_rawInput (s : State) : s.phaseReset.rawInput = s.rawInput := rfl
@[simp] theorem State.phaseReset_dutyCounter (s : State) : s.phaseReset.dutyCounter = s.dutyCounter := rfl
@[simp] theorem State.phaseReset_motorEnabled (s : State) : s.phaseReset.motorEnabled = s.motorEnabled := rfl
@[simp] theorem State.phaseReset_phaseElapsed (s : State) : s.phaseReset.phaseElapsed = 0 := rfl
@[simp] theorem State.phaseReset_pulseCounter (s : State) : s.phaseReset.pulseCounter = s.pulseCounter := rfl
@[simp] theorem State.phaseReset_servoPulseLevel (s : State) : s.phaseReset.servoPulseLevel = s.servoPulseLevel := rfl
@[simp] theorem State.phaseReset_frameIndex (s : State) : s.phaseReset.frameIndex = s.frameIndex := rfl
@[simp] theorem State.phaseReset_stIn (s : State) : s.phaseReset.stIn = s.stIn := rfl
@[simp] theorem State.phaseReset_stMot (s : State) : s.phaseReset.stMot = s.stMot := rfl
@[simp] theorem State.phaseReset_stOsc (s : State) : s.phaseReset.stOsc = s.stOsc := rfl
@[simp] theorem State.phaseReset_stDisp (s : State) : s.phaseReset.stDisp = s.stDisp := rfl
@[simp] theorem State.phaseReset_stOut (s : State) : s.phaseReset.stOut = s.stOut := rfl
@[simp] theorem State.phaseReset_elapsed (s : State) : s.phaseReset.elapsed = s.elapsed := rfl
@[simp] theorem State.phaseReset_tickFlag (s : State) : s.phaseReset.tickFlag = s.tickFlag := rfl
@[simp] theorem State.phaseReset_portOut (s : State) : s.phaseReset.portOut = s.portOut := rfl
@[simp] theorem State.phaseReset_pinIn (s : State) : s.phaseReset.pinIn = s.pinIn := rfl
@[simp] theorem State.phaseReset_tickPeriod (s : State) : s.phaseReset.tickPeriod = s.tickPeriod := rfl
@[simp] theorem State.phaseReset_tickStarted (s : State) : s.phaseReset.tickStarted = s.tickStarted := rfl
@[simp] theorem State.phaseReset_boot (s : State) : s.phaseReset.boot = s.boot := rfl
@[simp] theorem State.phaseReset_emitted (s : State) : s.phaseReset.emitted = s.emitted := rfl
@[simp] theorem State.phaseReset_agenda (s : State) : s.phaseReset.agenda = s.agenda := rfl

/-! ### `pulseGen` -/

@[simp] theorem State.pulseGen_cfg (s : State) (w : Nat) : (s.pulseGen w).cfg = s.cfg := rfl
@[simp] theorem State.pulseGen_power (s : State) (w : Nat) : (s.pulseGen w).power = s.power := rfl
@[simp] theorem State.pulseGen_oscillating (s : State) (w : Nat) : (s.pulseGen w).oscillating = s.oscillating := rfl
@[simp] theorem State.pulseGen_temperatureMode (s : State) (w : Nat) :
    (s.pulseGen w).temperatureMode = s.temperatureMode := rfl
@[simp] theorem State.pulseGen_speedIndex (s : State) (w : Nat) : (s.pulseGen w).speedIndex = s.speedIndex := rfl
@[simp] theorem State.pulseGen_rawInput (s : State) (w : Nat) : (s.pulseGen w).rawInput = s.rawInput := rfl
@[simp] theorem State.pulseGen_dutyCounter (s : State) (w : Nat) : (s.pulseGen w).dutyCounter = s.dutyCounter := rfl
@[simp] theorem State.pulseGen_motorEnabled (s : State) (w : Nat) :
    (s.pulseGen w).motorEnabled = s.motorEnabled := rfl
@[simp] theorem State.pulseGen_phaseElapsed (s : State) (w : Nat) :
    (s.pulseGen w).phaseElapsed = s.phaseElapsed := rfl
@[simp] theorem State.pulseGen_pulseCounter (s : State) (w : Nat) :
    (s.pulseGen w).pulseCounter = nextPulse s.cfg s.pulseCounter := rfl
@[simp] theorem State.pulseGen_servoPulseLevel (s : State) (w : Nat) :
    (s.pulseGen w).servoPulseLevel = pulseLevel (nextPulse s.cfg s.pulseCounter) w := rfl
@[simp] theorem State.pulseGen_frameIndex (s : State) (w : Nat) : (s.pulseGen w).frameIndex = s.frameIndex := rfl
@[simp] theorem State.pulseGen_stIn (s : State) (w : Nat) : (s.pulseGen w).stIn = s.stIn := rfl
@[simp] theorem State.pulseGen_stMot (s : State) (w : Nat) : (s.pulseGen w).stMot = s.stMot := rfl
@[simp] theorem State.pulseGen_stOsc (s : State) (w : Nat) : (s.pulseGen w).stOsc = s.stOsc := rfl
@[simp] theorem State.pulseGen_stDisp (s : State) (w : Nat) : (s.pulseGen w).stDisp = s.stDisp := rfl
@[simp] theorem State.pulseGen_stOut (s : State) (w : Nat) : (s.pulseGen w).stOut = s.stOut := rfl
@[simp] theorem State.pulseGen_elapsed (s : State) (w : Nat) : (s.pulseGen w).elapsed = s.elapsed := rfl
@[simp] theorem State.pulseGen_tickFlag (s : State) (w : Nat) : (s.pulseGen w).tickFlag = s.tickFlag := rfl
@[simp] theorem State.pulseGen_portOut (s : State) (w : Nat) : (s.pulseGen w).portOut = s.portOut := rfl
@[simp] theorem State.pulseGen_pinIn (s : State) (w : Nat) : (s.pulseGen w).pinIn = s.pinIn := rfl
@[simp] theorem State.pulseGen_tickPeriod (s : State) (w : Nat) : (s.pulseGen w).tickPeriod = s.tickPeriod := rfl
@[simp] theorem State.pulseGen_tickStarted (s : State) (w : Nat) : (s.pulseGen w).tickStarted = s.tickStarted := rfl
@[simp] theorem State.pulseGen_boot (s : State) (w : Nat) : (s.pulseGen w).boot = s.boot := rfl
@[simp] theorem State.pulseGen_emitted (s : State) (w : Nat) : (s.pulseGen w).emitted = s.emitted := rfl
@[simp] theorem State.pulseGen_agenda (s : State) (w : Nat) : (s.pulseGen w).agenda = s.agenda := rfl

/-! ### `tickArrives` -/

@[simp] theorem State.tickArrives_cfg (s : State) : s.tickArrives.cfg = s.cfg := rfl
@[simp] theorem State.tickArrives_power (s : State) : s.tickArrives.power = s.power := rfl
@[simp] theorem State.tickArrives_oscillating (s : State) : s.tickArrives.oscillating = s.oscillating := rfl
@[simp] theorem State.tickArrives_temperatureMode (s : State) :
    s.tickArrives.temperatureMode = s.temperatureMode := rfl
@[simp] theorem State.tickArrives_speedIndex (s : State) : s.tickArrives.speedIndex = s.speedIndex := rfl
@[simp] theorem State.tickArrives_rawInput (s : State) : s.tickArrives.rawInput = s.rawInput := rfl
@[simp] theorem State.tickArrives_dutyCounter (s : State) : s.tickArrives.dutyCounter = s.dutyCounter := rfl
@[simp] theorem State.tickArrives_motorEnabled (s : State) : s.tickArrives.motorEnabled = s.motorEnabled := rfl
@[simp] theorem State.tickArrives_phaseElapsed (s : State) : s.tickArrives.phaseElapsed = s.phaseElapsed := rfl
@[simp] theorem State.tickArrives_pulseCounter (s : State) : s.tickArrives.pulseCounter = s.pulseCounter := rfl
@[simp] theorem State.tickArrives_servoPulseLevel (s : State) :
    s.tickArrives.servoPulseLevel = s.servoPulseLevel := rfl
@[simp] theorem State.tickArrives_frameIndex (s : State) : s.tickArrives.frameIndex = s.frameIndex := rfl
@[simp] theorem State.tickArrives_stIn (s : State) : s.tickArrives.stIn = s.stIn := rfl
@[simp] theorem State.tickArrives_stMot (s : State) : s.tickArrives.stMot = s.stMot := rfl
@[simp] theorem State.tickArrives_stOsc (s : State) : s.tickArrives.stOsc = s.stOsc := rfl
@[simp] theorem State.tickArrives_stDisp (s : State) : s.tickArrives.stDisp = s.stDisp := rfl
@[simp] theorem State.tickArrives_stOut (s : State) : s.tickArrives.stOut = s.stOut := rfl
@[simp] theorem State.tickArrives_elapsed (s : State) : s.tickArrives.elapsed = s.elapsed := rfl
@[simp] theorem State.tickArrives_tickFlag (s : State) : s.tickArrives.tickFlag = (s.tickFlag || s.tickStarted) := rfl
@[simp] theorem State.tickArrives_portOut (s : State) : s.tickArrives.portOut = s.portOut := rfl
@[simp] theorem State.tickArrives_pinIn (s : State) : s.tickArrives.pinIn = s.pinIn := rfl
@[simp] theorem State.tickArrives_tickPeriod (s : State) : s.tickArrives.tickPeriod = s.tickPeriod := rfl
@[simp] theorem State.tickArrives_tickStarted (s : State) : s.tickArrives.tickStarted = s.tickStarted := rfl
@[simp] theorem State.tickArrives_boot (s : State) : s.tickArrives.boot = s.boot := rfl
@[simp] theorem State.tickArrives_emitted (s : State) : s.tickArrives.emitted = s.emitted := rfl
@[simp] theorem State.tickArrives_agenda (s : State) : s.tickArrives.agenda = s.agenda := rfl

/-! ### `presentPin` -/

@[simp] theorem State.presentPin_cfg (s : State) (b : Byte) : (s.presentPin b).cfg = s.cfg := rfl
@[simp] theorem State.presentPin_power (s : State) (b : Byte) : (s.presentPin b).power = s.power := rfl
@[simp] theorem State.presentPin_oscillating (s : State) (b : Byte) :
    (s.presentPin b).oscillating = s.oscillating := rfl
@[simp] theorem State.presentPin_temperatureMode (s : State) (b : Byte) :
    (s.presentPin b).temperatureMode = s.temperatureMode := rfl
@[simp] theorem State.presentPin_speedIndex (s : State) (b : Byte) : (s.presentPin b).speedIndex = s.speedIndex := rfl
@[simp] theorem State.presentPin_rawInput (s : State) (b : Byte) : (s.presentPin b).rawInput = s.rawInput := rfl
@[simp] theorem State.presentPin_dutyCounter (s : State) (b : Byte) :
    (s.presentPin b).dutyCounter = s.dutyCounter := rfl
@[simp] theorem State.presentPin_motorEnabled (s : State) (b : Byte) :
    (s.presentPin b).motorEnabled = s.motorEnabled := rfl
@[simp] theorem State.presentPin_phaseElapsed (s : State) (b : Byte) :
    (s.presentPin b).phaseElapsed = s.phaseElapsed := rfl
@[simp] theorem State.presentPin_pulseCounter (s : State) (b : Byte) :
    (s.presentPin b).pulseCounter = s.pulseCounter := rfl
@[simp] theorem State.presentPin_servoPulseLevel (s : State) (b : Byte) :
    (s.presentPin b).servoPulseLevel = s.servoPulseLevel := rfl
@[simp] theorem State.presentPin_frameIndex (s : State) (b : Byte) : (s.presentPin b).frameIndex = s.frameIndex := rfl
@[simp] theorem State.presentPin_stIn (s : State) (b : Byte) : (s.presentPin b).stIn = s.stIn := rfl
@[simp] theorem State.presentPin_stMot (s : State) (b : Byte) : (s.presentPin b).stMot = s.stMot := rfl
@[simp] theorem State.presentPin_stOsc (s : State) (b : Byte) : (s.presentPin b).stOsc = s.stOsc := rfl
@[simp] theorem State.presentPin_stDisp (s : State) (b : Byte) : (s.presentPin b).stDisp = s.stDisp := rfl
@[simp] theorem State.presentPin_stOut (s : State) (b : Byte) : (s.presentPin b).stOut = s.stOut := rfl
@[simp] theorem State.presentPin_elapsed (s : State) (b : Byte) : (s.presentPin b).elapsed = s.elapsed := rfl
@[simp] theorem State.presentPin_tickFlag (s : State) (b : Byte) : (s.presentPin b).tickFlag = s.tickFlag := rfl
@[simp] theorem State.presentPin_portOut (s : State) (b : Byte) : (s.presentPin b).portOut = s.portOut := rfl
@[simp] theorem State.presentPin_pinIn (s : State) (b : Byte) : (s.presentPin b).pinIn = b := rfl
@[simp] theorem State.presentPin_tickPeriod (s : State) (b : Byte) : (s.presentPin b).tickPeriod = s.tickPeriod := rfl
@[simp] theorem State.presentPin_tickStarted (s : State) (b : Byte) :
    (s.presentPin b).tickStarted = s.tickStarted := rfl
@[simp] theorem State.presentPin_boot (s : State) (b : Byte) : (s.presentPin b).boot = s.boot := rfl
@[simp] theorem State.presentPin_emitted (s : State) (b : Byte) : (s.presentPin b).emitted = s.emitted := rfl
@[simp] theorem State.presentPin_agenda (s : State) (b : Byte) : (s.presentPin b).agenda = s.agenda := rfl

/-! ### `bootConfigure` -/

@[simp] theorem State.bootConfigure_cfg (s : State) : s.bootConfigure.cfg = s.cfg := rfl
@[simp] theorem State.bootConfigure_power (s : State) : s.bootConfigure.power = s.power := rfl
@[simp] theorem State.bootConfigure_oscillating (s : State) : s.bootConfigure.oscillating = s.oscillating := rfl
@[simp] theorem State.bootConfigure_temperatureMode (s : State) :
    s.bootConfigure.temperatureMode = s.temperatureMode := rfl
@[simp] theorem State.bootConfigure_speedIndex (s : State) : s.bootConfigure.speedIndex = s.speedIndex := rfl
@[simp] theorem State.bootConfigure_rawInput (s : State) : s.bootConfigure.rawInput = s.rawInput := rfl
@[simp] theorem State.bootConfigure_dutyCounter (s : State) : s.bootConfigure.dutyCounter = s.dutyCounter := rfl
@[simp] theorem State.bootConfigure_motorEnabled (s : State) : s.bootConfigure.motorEnabled = s.motorEnabled := rfl
@[simp] theorem State.bootConfigure_phaseElapsed (s : State) : s.bootConfigure.phaseElapsed = s.phaseElapsed := rfl
@[simp] theorem State.bootConfigure_pulseCounter (s : State) : s.bootConfigure.pulseCounter = s.pulseCounter := rfl
@[simp] theorem State.bootConfigure_servoPulseLevel (s : State) :
    s.bootConfigure.servoPulseLevel = s.servoPulseLevel := rfl
@[simp] theorem State.bootConfigure_frameIndex (s : State) : s.bootConfigure.frameIndex = s.frameIndex := rfl
@[simp] theorem State.bootConfigure_stIn (s : State) : s.bootConfigure.stIn = s.stIn := rfl
@[simp] theorem State.bootConfigure_stMot (s : State) : s.bootConfigure.stMot = s.stMot := rfl
@[simp] theorem State.bootConfigure_stOsc (s : State) : s.bootConfigure.stOsc = s.stOsc := rfl
@[simp] theorem State.bootConfigure_stDisp (s : State) : s.bootConfigure.stDisp = s.stDisp := rfl
@[simp] theorem State.bootConfigure_stOut (s : State) : s.bootConfigure.stOut = s.stOut := rfl
@[simp] theorem State.bootConfigure_elapsed (s : State) : s.bootConfigure.elapsed = s.elapsed := rfl
@[simp] theorem State.bootConfigure_tickFlag (s : State) : s.bootConfigure.tickFlag = s.tickFlag := rfl
@[simp] theorem State.bootConfigure_portOut (s : State) : s.bootConfigure.portOut = s.portOut := rfl
@[simp] theorem State.bootConfigure_pinIn (s : State) : s.bootConfigure.pinIn = s.pinIn := rfl
@[simp] theorem State.bootConfigure_tickPeriod (s : State) :
    s.bootConfigure.tickPeriod = Config.tickPeriodUnits := rfl
@[simp] theorem State.bootConfigure_tickStarted (s : State) : s.bootConfigure.tickStarted = s.tickStarted := rfl
@[simp] theorem State.bootConfigure_boot (s : State) : s.bootConfigure.boot = .start := rfl
@[simp] theorem State.bootConfigure_emitted (s : State) : s.bootConfigure.emitted = s.emitted := rfl
@[simp] theorem State.bootConfigure_agenda (s : State) : s.bootConfigure.agenda = s.agenda := rfl

/-! ### `bootStart` -/

@[simp] theorem State.bootStart_cfg (s : State) : s.bootStart.cfg = s.cfg := rfl
@[simp] theorem State.bootStart_power (s : State) : s.bootStart.power = s.power := rfl
@[simp] theorem State.bootStart_oscillating (s : State) : s.bootStart.oscillating = s.oscillating := rfl
@[simp] theorem State.bootStart_temperatureMode (s : State) : s.bootStart.temperatureMode = s.temperatureMode := rfl
@[simp] theorem State.bootStart_speedIndex (s : State) : s.bootStart.speedIndex = s.speedIndex := rfl
@[simp] theorem State.bootStart_rawInput (s : State) : s.bootStart.rawInput = s.rawInput := rfl
@[simp] theorem State.bootStart_dutyCounter (s : State) : s.bootStart.dutyCounter = s.dutyCounter := rfl
@[simp] theorem State.bootStart_motorEnabled (s : State) : s.bootStart.motorEnabled = s.motorEnabled := rfl
@[simp] theorem State.bootStart_phaseElapsed (s : State) : s.bootStart.phaseElapsed = s.phaseElapsed := rfl
@[simp] theorem State.bootStart_pulseCounter (s : State) : s.bootStart.pulseCounter = s.pulseCounter := rfl
@[simp] theorem State.bootStart_servoPulseLevel (s : State) : s.bootStart.servoPulseLevel = s.servoPulseLevel := rfl
@[simp] theorem State.bootStart_frameIndex (s : State) : s.bootStart.frameIndex = s.frameIndex := rfl
@[simp] theorem State.bootStart_stIn (s : State) : s.bootStart.stIn = s.stIn := rfl
@[simp] theorem State.bootStart_stMot (s : State) : s.bootStart.stMot = s.stMot := rfl
@[simp] theorem State.bootStart_stOsc (s : State) : s.bootStart.stOsc = s.stOsc := rfl
@[simp] theorem State.bootStart_stDisp (s : State) : s.bootStart.stDisp = s.stDisp := rfl
@[simp] theorem State.bootStart_stOut (s : State) : s.bootStart.stOut = s.stOut := rfl
@[simp] theorem State.bootStart_elapsed (s : State) : s.bootStart.elapsed = s.elapsed := rfl
@[simp] theorem State.bootStart_tickFlag (s : State) : s.bootStart.tickFlag = s.tickFlag := rfl
@[simp] theorem State.bootStart_portOut (s : State) : s.bootStart.portOut = s.portOut := rfl
@[simp] theorem State.bootStart_pinIn (s : State) : s.bootStart.pinIn = s.pinIn := rfl
@[simp] theorem State.bootStart_tickPeriod (s : State) : s.bootStart.tickPeriod = s.tickPeriod := rfl
@[simp] theorem State.bootStart_tickStarted (s : State) : s.bootStart.tickStarted = true := rfl
@[simp] theorem State.bootStart_boot (s : State) : s.bootStart.boot = .running := rfl
@[simp] theorem State.bootStart_emitted (s : State) : s.bootStart.emitted = s.emitted := rfl
@[simp] theorem State.bootStart_agenda (s : State) : s.bootStart.agenda = s.agenda := rfl

/-! ### Reads through the task index -/

/-- A code is read back as its `STATE_W` low bits. -/
@[simp] theorem State.setSt_st_self (s : State) (t : Task) (c : Nat) :
    (s.setSt t c).st t = c % 2 ^ s.cfg.stateW := by
  cases t <;> rfl

theorem State.setSt_st_of_ne (s : State) (t k : Task) (c : Nat) (h : k ≠ t) : (s.setSt t c).st k = s.st k := by
  cases t <;> cases k <;> first | rfl | exact absurd rfl h

@[simp] theorem PerTask.get_set_self {α : Type} (p : PerTask α) (t : Task) (v : α) : (p.set t v).get t = v := by
  cases t <;> rfl

theorem PerTask.get_set_of_ne {α : Type} (p : PerTask α) (t k : Task) (v : α) (h : k ≠ t) :
    (p.set t v).get k = p.get k := by
  cases t <;> cases k <;> first | rfl | exact absurd rfl h

@[simp] theorem PerTask.get_map {α β : Type} (f : α → β) (p : PerTask α) (t : Task) :
    (p.map f).get t = f (p.get t) := by
  cases t <;> rfl

end Sys2Proof.Machine
end

