-- ==== Sys2Proof/Laws/Steps.lean ====
section
/-! SUPPORT. What each shared operation does, said once: the step of every FSM as one record update, what a task's step
can answer, what dispatching a task and a whole tick transaction can answer. -/

namespace Sys2Proof.Machine

/-! ### Counters and indices -/

theorem incr_lt (w n : Nat) : incr w n < 2 ^ w := Nat.mod_lt _ (Nat.two_pow_pos w)

theorem incr_of_lt {w n : Nat} (h : n + 1 < 2 ^ w) : incr w n = n + 1 := Nat.mod_eq_of_lt h

theorem nextSpeed_eq (i : Fin NSPEED) : nextSpeed i = i + 1 := by
  revert i; decide

theorem nextPulse_lt {c : Config} (h : c.WellFormed) (n : Nat) : nextPulse c n < c.pulsePeriod := by
  obtain ⟨-, -, -, ⟨-, hw⟩, -, -, -, -⟩ := h
  unfold nextPulse
  split
  · omega
  · exact Nat.lt_of_le_of_lt (Nat.mod_le _ _) (by omega)

/-! ### Composing outcomes -/

@[simp] theorem andThen_next (s : State) (f : State → Result) : Result.andThen (.next s) f = f s := rfl

/-- If a composition answers a next state, then so did its first part. -/
theorem andThen_eq_next {r : Result} {f : State → Result} {t : State} (h : r.andThen f = .next t) :
    ∃ u, r = .next u ∧ f u = .next t := by
  cases r with
  | next u => exact ⟨u, rfl, h⟩
  | fault e => cases h
  | refused e => cases h

/-! ### The step of each FSM as one record update -/

/-- The step of the Input Interpreter: only its own registers and the list of events change. -/
theorem inStepFrom_eq (st : InState) (raw : Nibble) (s : State) :
    inStepFrom st raw s =
      let e := inTransition st (s.snapshot raw)
      { s with
        rawInput := raw
        stIn := e.code
        power := (match e with | .off => false | .on => true | _ => s.power)
        speedIndex :=
          (match e with
            | .setSpeed => (if s.temperatureMode = false then nextSpeed s.speedIndex else s.speedIndex)
            | _ => s.speedIndex)
        temperatureMode := (match e with | .toggleTemperatureMode => !s.temperatureMode | _ => s.temperatureMode)
        oscillating := (match e with | .toggleOscillation => !s.oscillating | _ => s.oscillating)
        emitted :=
          (match e with
            | .off => s.emitted ++ [.textUpdate .off]
            | .on => s.emitted ++ [.textUpdate .on]
            | .setSpeed => s.emitted ++ [.textUpdate .setSpeed]
            | .toggleTemperatureMode => s.emitted ++ [.textUpdate .toggleTemperatureMode]
            | .toggleOscillation => s.emitted ++ [.textUpdate .toggleOscillation]
            | _ => s.emitted) } := by
  simp only [inStepFrom]
  generalize inTransition st (s.snapshot raw) = e
  cases e <;> rfl

/-- The step of the Motor Duty FSM. -/
theorem motStepFrom_eq (st : MotState) (s : State) :
    motStepFrom st s =
      let e := motTransition st s
      let d := incr s.cfg.dutyCtrW s.dutyCounter
      { s with
        stMot := e.code
        dutyCounter :=
          (match e with
            | .on => dutyCounterAfter d s.cfg.dutyLowThreshold s.selectedDuty
            | _ => s.dutyCounter)
        motorEnabled :=
          (match e with
            | .start => s.motorEnabled
            | .off => false
            | .on => motorEnabledAfter d s.cfg.dutyLowThreshold s.selectedDuty s.motorEnabled) } := by
  simp only [motStepFrom]
  generalize motTransition st s = e
  cases e <;> rfl

/-- The step of the Oscillator FSM. -/
theorem oscStepFrom_eq (st : OscState) (s : State) :
    oscStepFrom st s =
      let e := oscTransition st s
      let v := if st = .sweepRight ∧ e = .dwell then 0 else s.phaseElapsed
      { s with
        stOsc := e.code
        phaseElapsed :=
          (match e with
            | .start => v
            | .off => v
            | _ => incr s.cfg.phaseW v)
        pulseCounter :=
          (match e with
            | .sweepLeft => nextPulse s.cfg s.pulseCounter
            | .sweepRight => nextPulse s.cfg s.pulseCounter
            | _ => s.pulseCounter)
        servoPulseLevel :=
          (match e with
            | .start => s.servoPulseLevel
            | .off => false
            | .sweepLeft => pulseLevel (nextPulse s.cfg s.pulseCounter) s.cfg.widthLeft
            | .dwell => false
            | .sweepRight => pulseLevel (nextPulse s.cfg s.pulseCounter) s.cfg.widthRight) } := by
  simp only [oscStepFrom, oscTransitionWrite]
  generalize oscTransition st s = e
  cases e <;> cases st <;> rfl

/-- The step of the Display Animation FSM. -/
theorem dispStepFrom_eq (st : DispState) (s : State) :
    dispStepFrom st s =
      let e := dispTransition st s
      { s with
        stDisp := e.code
        frameIndex := (match e with | .output => toggleFrame s.frameIndex | _ => s.frameIndex)
        emitted :=
          (match e with
            | .output => s.emitted ++ [.bitmapRedraw (toggleFrame s.frameIndex)]
            | _ => s.emitted) } := by
  simp only [dispStepFrom]
  generalize dispTransition st s = e
  cases e <;> rfl

/-- The step of the Output Composer FSM: from both states it writes the composed word. -/
theorem outStepFrom_eq (st : OutState) (s : State) :
    outStepFrom st s =
      { s with stOut := 0x01, portOut := s.compose, emitted := s.emitted ++ [.outWrite s.compose] } := by
  cases st <;> rfl

/-! ### Which state a step enters -/

/-- The button decode as the chain of comparisons of R155. -/
theorem decodeButton_eq (c : Config) (r : Nibble) (pw : Bool) :
    decodeButton c r pw =
      if r = c.codePower then (if pw = false then .on else .off)
      else if r = c.codeSpeed then .setSpeed
      else if r = c.codeOsc then .toggleOscillation
      else if r = c.codeTemp then .toggleTemperatureMode
      else .wait := by
  unfold decodeButton InputCode.ofRaw
  repeat' split
  all_goals first | rfl | simp_all [powerDestination]

/-- An action state of the Input Interpreter is entered from `Wait` only, by the decode. -/
theorem inTransition_action {st e : InState} {s : State} (h : inTransition st s = e)
    (he : e ≠ .wait ∧ e ≠ .press) : st = .wait ∧ decodeButton s.cfg s.rawInput s.power = e := by
  cases st
  case wait => exact ⟨rfl, h⟩
  case press =>
    simp only [inTransition] at h
    split at h
    · exact absurd h.symm he.1
    · exact absurd h.symm he.2
  case start => exact absurd h.symm he.1
  all_goals exact absurd h.symm he.2

/-- No transition leads to `Start` (R140). -/
theorem inTransition_ne_start (st : InState) (s : State) : inTransition st s ≠ .start := by
  cases st <;> simp only [inTransition, decodeButton_eq] <;> (repeat' split) <;> decide

theorem motTransition_ne_start (st : MotState) (s : State) : motTransition st s ≠ .start := by
  cases st <;> simp only [motTransition] <;> (repeat' split) <;> decide

theorem oscTransition_ne_start (st : OscState) (s : State) : oscTransition st s ≠ .start := by
  cases st <;> simp only [oscTransition] <;> (repeat' split) <;> decide

theorem dispTransition_ne_start (st : DispState) (s : State) : dispTransition st s ≠ .start := by
  cases st <;> simp only [dispTransition] <;> (repeat' split) <;> decide

/-! ### What a task's step can answer -/

/-- The state after the step of task `t`: the step its state register selects, or the return to `Start` (R138). -/
def taskStep (t : Task) (s : State) : State :=
  match t with
  | .inp =>
    match InState.ofCode (s.st .inp) with
    | some st => inStepFrom st s.samplePin s
    | none => (s.snapshot s.samplePin).selfHeal .inp
  | .mot =>
    match MotState.ofCode (s.st .mot) with
    | some st => motStepFrom st s
    | none => s.selfHeal .mot
  | .osc =>
    match OscState.ofCode (s.st .osc) with
    | some st => oscStepFrom st s
    | none => s.selfHeal .osc
  | .disp =>
    match DispState.ofCode (s.st .disp) with
    | some st => dispStepFrom st s
    | none => s.selfHeal .disp
  | .out =>
    match OutState.ofCode (s.st .out) with
    | some st => outStepFrom st s
    | none => s.selfHeal .out

/-- A task's step always answers a next state (R136). -/
theorem runTask_eq (t : Task) (s : State) : runTask t s = .next (taskStep t s) := by
  cases t with
  | inp =>
    simp only [runTask, taskStep, stepInput]
    cases InState.ofCode (s.st .inp) with
    | none => rfl
    | some st => cases st <;> rfl
  | mot =>
    simp only [runTask, taskStep, stepMotor]
    cases MotState.ofCode (s.st .mot) with
    | none => rfl
    | some st => cases st <;> rfl
  | osc =>
    simp only [runTask, taskStep, stepOscillator]
    cases OscState.ofCode (s.st .osc) with
    | none => rfl
    | some st => cases st <;> rfl
  | disp =>
    simp only [runTask, taskStep, stepDisplay]
    cases DispState.ofCode (s.st .disp) with
    | none => rfl
    | some st => cases st <;> rfl
  | out =>
    simp only [runTask, taskStep, stepComposer]
    cases OutState.ofCode (s.st .out) with
    | none => rfl
    | some st => cases st <;> rfl

/-! ### Dispatch and the tick transaction -/

/-- The state after task `t` was tested and, if due, stepped and cleared (R134). -/
def taskSlot (t : Task) (s : State) : State :=
  if s.due t then (taskStep t s).clearElapsed t else s

theorem dispatchTask_eq (t : Task) (s : State) : dispatchTask t s = .next (taskSlot t s) := by
  unfold dispatchTask taskSlot
  split
  · rw [runTask_eq, andThen_next]
  · rfl

/-- The tick transaction as five slots in task order (R131, R135). -/
theorem execSchedTick_eq (s : State) :
    execSchedTick s =
      .next (taskSlot .out (taskSlot .disp (taskSlot .osc (taskSlot .mot (taskSlot .inp
        s.consumeTick.incrementElapsed))))) := by
  simp only [execSchedTick, dispatchAll, dispatchTask_eq, andThen_next]

end Sys2Proof.Machine
end

