-- ==== Sys2Proof/Laws/Frames.lean ====
section
/-! SUPPORT. What a task's step, a task's slot in the tick transaction and one step of the machine can change: each said once,
as a record update of the registers that may change. -/

namespace Sys2Proof.Machine

/-! ### The step of a task changes the registers of its own writer (R32) and the list of events -/

theorem taskStep_inp (s : State) :
    ∃ raw st p o tm sp em, taskStep .inp s =
      { s with
        rawInput := raw, stIn := st, power := p, oscillating := o, temperatureMode := tm, speedIndex := sp
        emitted := em } := by
  simp only [taskStep]
  cases InState.ofCode (s.st .inp) with
  | none => exact ⟨_, _, _, _, _, _, _, rfl⟩
  | some st => exact ⟨_, _, _, _, _, _, _, inStepFrom_eq st _ s⟩

theorem taskStep_mot (s : State) :
    ∃ st d m, taskStep .mot s = { s with stMot := st, dutyCounter := d, motorEnabled := m } := by
  simp only [taskStep]
  cases MotState.ofCode (s.st .mot) with
  | none => exact ⟨_, _, _, rfl⟩
  | some st => exact ⟨_, _, _, motStepFrom_eq st s⟩

theorem taskStep_osc (s : State) :
    ∃ st pe pc sv, taskStep .osc s =
      { s with stOsc := st, phaseElapsed := pe, pulseCounter := pc, servoPulseLevel := sv } := by
  simp only [taskStep]
  cases OscState.ofCode (s.st .osc) with
  | none => exact ⟨_, _, _, _, rfl⟩
  | some st => exact ⟨_, _, _, _, oscStepFrom_eq st s⟩

theorem taskStep_disp (s : State) :
    ∃ st f em, taskStep .disp s = { s with stDisp := st, frameIndex := f, emitted := em } := by
  simp only [taskStep]
  cases DispState.ofCode (s.st .disp) with
  | none => exact ⟨_, _, _, rfl⟩
  | some st => exact ⟨_, _, _, dispStepFrom_eq st s⟩

theorem taskStep_out (s : State) :
    ∃ st w em, taskStep .out s = { s with stOut := st, portOut := w, emitted := em } := by
  simp only [taskStep]
  cases OutState.ofCode (s.st .out) with
  | none => exact ⟨_, _, _, rfl⟩
  | some st => exact ⟨_, _, _, outStepFrom_eq st s⟩

/-- No task's step touches a counter of the Scheduler, the tick flag or anything outside the core. -/
theorem taskStep_scheduler (t : Task) (s : State) :
    (taskStep t s).elapsed = s.elapsed ∧ (taskStep t s).tickFlag = s.tickFlag ∧
      (taskStep t s).outside = s.outside := by
  cases t
  · obtain ⟨_, _, _, _, _, _, _, h⟩ := taskStep_inp s; rw [h]; exact ⟨rfl, rfl, rfl⟩
  · obtain ⟨_, _, _, h⟩ := taskStep_mot s; rw [h]; exact ⟨rfl, rfl, rfl⟩
  · obtain ⟨_, _, _, _, h⟩ := taskStep_osc s; rw [h]; exact ⟨rfl, rfl, rfl⟩
  · obtain ⟨_, _, _, h⟩ := taskStep_disp s; rw [h]; exact ⟨rfl, rfl, rfl⟩
  · obtain ⟨_, _, _, h⟩ := taskStep_out s; rw [h]; exact ⟨rfl, rfl, rfl⟩

@[simp] theorem taskStep_elapsed (t : Task) (s : State) : (taskStep t s).elapsed = s.elapsed :=
  (taskStep_scheduler t s).1

@[simp] theorem taskStep_tickFlag (t : Task) (s : State) : (taskStep t s).tickFlag = s.tickFlag :=
  (taskStep_scheduler t s).2.1

@[simp] theorem taskStep_outside (t : Task) (s : State) : (taskStep t s).outside = s.outside :=
  (taskStep_scheduler t s).2.2

/-! ### Reading and writing a value per task -/

@[simp] theorem PerTask_get_set {α : Type} (p : PerTask α) (t u : Task) (v : α) :
    (p.set t v).get u = if u = t then v else p.get u := by cases t <;> cases u <;> rfl

@[simp] theorem PerTask_get_map {α β : Type} (f : α → β) (p : PerTask α) (t : Task) : (p.map f).get t = f (p.get t) := by
  cases t <;> rfl

theorem PerTask_ext {α : Type} {p q : PerTask α} (h : ∀ t, p.get t = q.get t) : p = q := by
  obtain ⟨a, b, c, d, e⟩ := p
  obtain ⟨a', b', c', d', e'⟩ := q
  have h1 : a = a' := h .inp
  have h2 : b = b' := h .mot
  have h3 : c = c' := h .osc
  have h4 : d = d' := h .disp
  have h5 : e = e' := h .out
  subst h1 h2 h3 h4 h5
  rfl

/-! ### The slot of a task in the tick transaction -/

@[simp] theorem taskSlot_tickFlag (t : Task) (s : State) : (taskSlot t s).tickFlag = s.tickFlag := by
  unfold taskSlot; split <;> simp

@[simp] theorem taskSlot_outside (t : Task) (s : State) : (taskSlot t s).outside = s.outside := by
  unfold taskSlot
  split
  · exact taskStep_outside t s
  · rfl

@[simp] theorem taskSlot_cfg (t : Task) (s : State) : (taskSlot t s).cfg = s.cfg :=
  congrArg Prod.fst (taskSlot_outside t s)

/-- A slot clears the counter of its own task when that task is due, and touches no other counter (R134). -/
theorem taskSlot_elapsed (t u : Task) (s : State) :
    (taskSlot t s).elapsed.get u =
      if u = t ∧ s.cfg.period.get t ≤ s.elapsed.get t then 0 else s.elapsed.get u := by
  unfold taskSlot State.due
  by_cases h : s.cfg.period.get t ≤ s.elapsed.get t <;> simp [h]

theorem taskSlot_not_due {t : Task} {s : State} (h : s.elapsed.get t < s.cfg.period.get t) : taskSlot t s = s := by
  unfold taskSlot State.due
  rw [if_neg]; simp only [decide_eq_true_eq]; omega

theorem taskSlot_due {t : Task} {s : State} (h : s.cfg.period.get t ≤ s.elapsed.get t) :
    taskSlot t s = (taskStep t s).clearElapsed t := by
  unfold taskSlot State.due
  rw [if_pos]; simpa using h

/-! ### The bound on the outer clock (R205) -/

/-- The bound of no phase is above that of `SweepRight`. -/
theorem phaseBound_le (s : State) : s.phaseBound ≤ s.cfg.sweepRLimit + 1 := by
  unfold State.phaseBound
  split <;> omega

theorem phaseElapsed_le_of_phaseInRange {s : State} (h : s.PhaseInRange) :
    s.phaseElapsed ≤ s.cfg.sweepRLimit + 1 := le_trans h (phaseBound_le s)

/-! ### Going on (`iterate`) -/

/-- One more step at the end. -/
theorem iterate_succ {f : State → Result} : ∀ (n : Nat) {s t : State}, iterate f n s = .next t →
    iterate f (n + 1) s = f t
  | 0, s, t, h => by
    cases h
    change (f s).andThen (fun u => .next u) = f s
    cases f s <;> rfl
  | n + 1, s, t, h => by
    obtain ⟨u, hu, h2⟩ := andThen_eq_next h
    change (f s).andThen (iterate f (n + 1)) = f t
    rw [hu]
    exact iterate_succ n h2

/-! ### One step of the machine -/

/-- What the core's move can answer (R132, R273). -/
theorem coreMove_cases (s : State) :
    (s.boot = .configure ∧ coreMove s = .next s.bootConfigure) ∨
    (s.boot = .start ∧ coreMove s = .next s.bootStart) ∨
    (s.boot = .running ∧ s.tickFlag = true ∧ coreMove s = execSchedTick s) ∨
    (s.boot = .running ∧ s.tickFlag = false ∧ coreMove s = .next s) := by
  cases hb : s.boot with
  | configure => exact .inl ⟨rfl, by simp only [coreMove, hb]⟩
  | start => exact .inr (.inl ⟨rfl, by simp only [coreMove, hb]⟩)
  | running =>
    cases ht : s.tickFlag with
    | true => exact .inr (.inr (.inl ⟨rfl, rfl, by simp only [coreMove, hb, State.fetch, ht]; rfl⟩))
    | false => exact .inr (.inr (.inr ⟨rfl, rfl, by simp only [coreMove, hb, State.fetch, ht]; rfl⟩))

/-- What a step can answer: everything one agent can do in one move (R7, R260). -/
theorem step_cases {s t : State} (h : step s = .next t) :
    s.cfg.WellFormed ∧
      ((s.agenda = [] ∧ coreMove s = .next t) ∨
        ∃ m rest, s.agenda = m :: rest ∧
          ((m = .core ∧ coreMove { s with agenda := rest } = .next t) ∨
            (m = .tick ∧ t = State.tickArrives { s with agenda := rest }) ∨
            (∃ b, m = .present b ∧ t = { s with agenda := rest, pinIn := b }) ∨
            (m = .reset ∧ t = State.resetWith s.cfg s.pinIn rest))) := by
  unfold step nextMove at h
  split at h
  · refine ⟨‹_›, ?_⟩
    split at h
    · exact .inl ⟨‹_›, h⟩
    · rename_i m rest heq
      refine .inr ⟨m, rest, heq, ?_⟩
      cases m with
      | core => exact .inl ⟨rfl, h⟩
      | tick => cases h; exact .inr (.inl ⟨rfl, rfl⟩)
      | present b => cases h; exact .inr (.inr (.inl ⟨b, rfl, rfl⟩))
      | reset => cases h; exact .inr (.inr (.inr ⟨rfl, rfl⟩))
  · cases h

end Sys2Proof.Machine
end

