-- ==== Sys2Proof/Laws/PerInstr.lean ====
section
/-! SUPPORT. The family `OpcodeRow`: the encoding of every instruction is the one its row of spec/opcode_table.json gives
(R118), under the decided configuration of R8. The rows are written out here from the table's own columns `format`, `mask`
and `match`, independently of the encoder. -/

namespace Sys2Proof.Laws

/-- The columns of a row of the opcode table. -/
structure Row where
  format : Format
  mask : Nat
  value : Nat
  deriving DecidableEq, Repr

/-- The row of each instruction, transcribed from spec/opcode_table.json. -/
def opcodeRow : Instr → Row
  | .idle => ⟨.rawin4, 0x0F, 0x00⟩
  | .power => ⟨.rawin4, 0x0F, 0x01⟩
  | .speed => ⟨.rawin4, 0x0F, 0x02⟩
  | .osc => ⟨.rawin4, 0x0F, 0x04⟩
  | .temp => ⟨.rawin4, 0x0F, 0x08⟩
  | .inStart => ⟨.state8 .inp, 0xFF, 0x00⟩
  | .inWait => ⟨.state8 .inp, 0xFF, 0x01⟩
  | .inOff => ⟨.state8 .inp, 0xFF, 0x02⟩
  | .inOn => ⟨.state8 .inp, 0xFF, 0x03⟩
  | .inSetSpeed => ⟨.state8 .inp, 0xFF, 0x04⟩
  | .inToggleTemperatureMode => ⟨.state8 .inp, 0xFF, 0x05⟩
  | .inToggleOscillation => ⟨.state8 .inp, 0xFF, 0x06⟩
  | .inPress => ⟨.state8 .inp, 0xFF, 0x07⟩
  | .motStart => ⟨.state8 .mot, 0xFF, 0x00⟩
  | .motOff => ⟨.state8 .mot, 0xFF, 0x01⟩
  | .motOn => ⟨.state8 .mot, 0xFF, 0x02⟩
  | .oscStart => ⟨.state8 .osc, 0xFF, 0x00⟩
  | .oscOff => ⟨.state8 .osc, 0xFF, 0x01⟩
  | .oscSweepLeft => ⟨.state8 .osc, 0xFF, 0x02⟩
  | .oscDwell => ⟨.state8 .osc, 0xFF, 0x03⟩
  | .oscSweepRight => ⟨.state8 .osc, 0xFF, 0x04⟩
  | .dispStart => ⟨.state8 .disp, 0xFF, 0x00⟩
  | .dispDwell => ⟨.state8 .disp, 0xFF, 0x01⟩
  | .dispOutput => ⟨.state8 .disp, 0xFF, 0x02⟩
  | .outStart => ⟨.state8 .out, 0xFF, 0x00⟩
  | .outOutput => ⟨.state8 .out, 0xFF, 0x01⟩
  | .schedTick => ⟨.event, 0x01, 0x01⟩
  | .outword _ _ _ _ _ => ⟨.out8, 0xC0, 0x00⟩

/-- A well-formed instruction is encoded in its row's format, and the bits that the row fixes have the row's values. -/
def OpcodeRow.Statement (i : Instr) : Prop :=
  i.wellFormed = true →
    (encode Config.decided i).1 = (opcodeRow i).format ∧
      (encode Config.decided i).2 &&& (opcodeRow i).mask = (opcodeRow i).value

theorem OpcodeRow.idle : OpcodeRow.Statement .idle := fun _ => ⟨rfl, by decide⟩

theorem OpcodeRow.power : OpcodeRow.Statement .power := fun _ => ⟨rfl, by decide⟩

theorem OpcodeRow.speed : OpcodeRow.Statement .speed := fun _ => ⟨rfl, by decide⟩

theorem OpcodeRow.osc : OpcodeRow.Statement .osc := fun _ => ⟨rfl, by decide⟩

theorem OpcodeRow.temp : OpcodeRow.Statement .temp := fun _ => ⟨rfl, by decide⟩

theorem OpcodeRow.inStart : OpcodeRow.Statement .inStart := fun _ => ⟨rfl, by decide⟩

theorem OpcodeRow.inWait : OpcodeRow.Statement .inWait := fun _ => ⟨rfl, by decide⟩

theorem OpcodeRow.inOff : OpcodeRow.Statement .inOff := fun _ => ⟨rfl, by decide⟩

theorem OpcodeRow.inOn : OpcodeRow.Statement .inOn := fun _ => ⟨rfl, by decide⟩

theorem OpcodeRow.inSetSpeed : OpcodeRow.Statement .inSetSpeed := fun _ => ⟨rfl, by decide⟩

theorem OpcodeRow.inToggleTemperatureMode : OpcodeRow.Statement .inToggleTemperatureMode := fun _ => ⟨rfl, by decide⟩

theorem OpcodeRow.inToggleOscillation : OpcodeRow.Statement .inToggleOscillation := fun _ => ⟨rfl, by decide⟩

theorem OpcodeRow.inPress : OpcodeRow.Statement .inPress := fun _ => ⟨rfl, by decide⟩

theorem OpcodeRow.motStart : OpcodeRow.Statement .motStart := fun _ => ⟨rfl, by decide⟩

theorem OpcodeRow.motOff : OpcodeRow.Statement .motOff := fun _ => ⟨rfl, by decide⟩

theorem OpcodeRow.motOn : OpcodeRow.Statement .motOn := fun _ => ⟨rfl, by decide⟩

theorem OpcodeRow.oscStart : OpcodeRow.Statement .oscStart := fun _ => ⟨rfl, by decide⟩

theorem OpcodeRow.oscOff : OpcodeRow.Statement .oscOff := fun _ => ⟨rfl, by decide⟩

theorem OpcodeRow.oscSweepLeft : OpcodeRow.Statement .oscSweepLeft := fun _ => ⟨rfl, by decide⟩

theorem OpcodeRow.oscDwell : OpcodeRow.Statement .oscDwell := fun _ => ⟨rfl, by decide⟩

theorem OpcodeRow.oscSweepRight : OpcodeRow.Statement .oscSweepRight := fun _ => ⟨rfl, by decide⟩

theorem OpcodeRow.dispStart : OpcodeRow.Statement .dispStart := fun _ => ⟨rfl, by decide⟩

theorem OpcodeRow.dispDwell : OpcodeRow.Statement .dispDwell := fun _ => ⟨rfl, by decide⟩

theorem OpcodeRow.dispOutput : OpcodeRow.Statement .dispOutput := fun _ => ⟨rfl, by decide⟩

theorem OpcodeRow.outStart : OpcodeRow.Statement .outStart := fun _ => ⟨rfl, by decide⟩

theorem OpcodeRow.outOutput : OpcodeRow.Statement .outOutput := fun _ => ⟨rfl, by decide⟩

theorem OpcodeRow.schedTick : OpcodeRow.Statement .schedTick := fun _ => ⟨rfl, by decide⟩

/-- The row `OUTWORD`: its fixed bits are 7:6, whatever the operands. -/
theorem OpcodeRow.outword (dir : Nat) (m s o p : Bool) : OpcodeRow.Statement (.outword dir m s o p) := by
  intro h
  have hd : dir < 4 := by
    have := of_decide_eq_true h
    omega
  have key : ∀ (d : Fin 4) (m s o p : Bool),
      (outWord (BitVec.ofNat 2 d.val) m s o p).toNat &&& 0xC0 = 0x00 := by decide
  exact ⟨rfl, key ⟨dir, hd⟩ m s o p⟩

end Sys2Proof.Laws
end

