-- ==== Sys2Proof/Tests/Slice0.lean ====
section
/-! SUPPORT. The model's own tests. Expected results come from the tables and worked examples of spec/ (each test names its
source), never from the model. The last part shows, for every statement of Certificates/Slice0/Obligations.lean that has
hypotheses, states and operands that meet them. -/

namespace Sys2Proof.Tests

open Sys2Proof.Machine

/-! ## Ill-formed terms are refused (R9, clause by clause) -/

theorem test_decided_wellformed : Config.decided.WellFormed := by decide

theorem test_wf_period_zero : ¬ ({ Config.decided with period := ⟨100, 1, 0, 500, 1⟩ } : Config).WfPeriods := by decide

theorem test_wf_period_too_wide :
    ¬ ({ Config.decided with period := ⟨65536, 1, 1, 500, 1⟩ } : Config).WfPeriods ∧
    ({ Config.decided with period := ⟨65535, 1, 1, 500, 1⟩ } : Config).WfPeriods := by decide

theorem test_wf_table_not_increasing :
    ¬ ({ Config.decided with dutyTable := ⟨11, 40, 40, 100⟩ } : Config).WfDutyTable := by decide

theorem test_wf_table_too_wide :
    ¬ ({ Config.decided with dutyTable := ⟨11, 40, 70, 255⟩ } : Config).WfDutyTable ∧
    ({ Config.decided with dutyTable := ⟨11, 40, 70, 254⟩ } : Config).WfDutyTable := by decide

theorem test_wf_threshold :
    ¬ ({ Config.decided with dutyLowThreshold := 12 } : Config).WfThreshold ∧
    ¬ ({ Config.decided with dutyLowThreshold := 0 } : Config).WfThreshold := by decide

theorem test_wf_widths :
    ¬ ({ Config.decided with widthLeft := 2 } : Config).WfWidths ∧
    ¬ ({ Config.decided with widthRight := 20 } : Config).WfWidths := by decide

theorem test_wf_limits :
    ¬ ({ Config.decided with dwell2Limit := 100 } : Config).WfLimits ∧
    ¬ ({ Config.decided with sweepRLimit := 1000 } : Config).WfLimits ∧
    ¬ ({ Config.decided with phaseW := 10 } : Config).WfLimits := by decide

theorem test_wf_codes :
    ¬ ({ Config.decided with codeTemp := 0x1#4 } : Config).WfCodes ∧
    ¬ ({ Config.decided with codeIdle := 0xF#4 } : Config).WfCodes := by decide

theorem test_wf_direction : ¬ ({ Config.decided with dirCode := 4 } : Config).WfDirection := by decide

theorem test_wf_pulse_period : ¬ ({ Config.decided with pulsePeriod := 256 } : Config).WfPulsePeriod := by decide

/-- Log entry 21: three bits are the least that hold the codes; R100 and the decided width are eight. -/
theorem test_wf_state_width :
    ¬ ({ Config.decided with stateW := 2 } : Config).WfStateWidth ∧
    ({ Config.decided with stateW := 3 } : Config).WellFormed ∧
    ({ Config.decided with stateW := 16 } : Config).WellFormed := ⟨by decide, by decide, by decide⟩

theorem test_wf_outword_direction :
    Instr.wellFormed (.outword 4 false false false false) = false ∧
    Instr.wellFormed (.outword 3 false false false false) = true := by decide

/-! ## Words written out from the tables of spec/30_encoding.md -/

/-- R102: the five input codes; the bits above the low nibble are not read. -/
theorem test_decode_rawin4 :
    [0b0000, 0b0001, 0b0010, 0b0100, 0b1000, 0b11110010].map (decode Config.decided .rawin4) =
      [.instr .idle, .instr .power, .instr .speed, .instr .osc, .instr .temp, .instr .speed] := by decide

/-- R112: two buttons at once match no code. -/
theorem test_decode_rawin4_unmatched :
    decode Config.decided .rawin4 0b0011 = .rejected (.unmatchedInput 0b0011#4) := by decide

/-- R104. -/
theorem test_decode_in :
    [0b00000000, 0b00000001, 0b00000010, 0b00000011, 0b00000100, 0b00000101, 0b00000110,
      0b00000111].map (decode Config.decided (.state8 .inp)) =
      [.instr .inStart, .instr .inWait, .instr .inOff, .instr .inOn, .instr .inSetSpeed,
        .instr .inToggleTemperatureMode, .instr .inToggleOscillation, .instr .inPress] := by decide

/-- R105. -/
theorem test_decode_mot :
    [0b00000000, 0b00000001, 0b00000010].map (decode Config.decided (.state8 .mot)) =
      [.instr .motStart, .instr .motOff, .instr .motOn] := by decide

/-- R106. -/
theorem test_decode_osc :
    [0b00000000, 0b00000001, 0b00000010, 0b00000011, 0b00000100].map (decode Config.decided (.state8 .osc)) =
      [.instr .oscStart, .instr .oscOff, .instr .oscSweepLeft, .instr .oscDwell, .instr .oscSweepRight] := by decide

/-- R107. -/
theorem test_decode_disp :
    [0b00000000, 0b00000001, 0b00000010].map (decode Config.decided (.state8 .disp)) =
      [.instr .dispStart, .instr .dispDwell, .instr .dispOutput] := by decide

/-- R108. -/
theorem test_decode_out :
    [0b00000000, 0b00000001].map (decode Config.decided (.state8 .out)) =
      [.instr .outStart, .instr .outOutput] := by decide

/-- R118: the tick transaction is selected by the flag; the other bits are not read. -/
theorem test_decode_event :
    [0b00000001, 0b11111111, 0b00000000].map (decode Config.decided .event) =
      [.instr .schedTick, .instr .schedTick, .rejected .noTick] := by decide

/-- R109, R233: direction in bits 5:4, then motor, servo, oscillation, power. -/
theorem test_decode_out8 :
    [0b00011011, 0b00100100, 0b00111111, 0b01000000].map (decode Config.decided .out8) =
      [.instr (.outword 1 true false true true), .instr (.outword 2 false true false false),
        .instr (.outword 3 true true true true), .rejected (.reservedOutputBits 0b01000000#8)] := by decide

/-- R111: the first unrecognised code of each FSM. -/
theorem test_decode_unrecognised :
    decode Config.decided (.state8 .inp) 0x08 = .rejected (.unrecognisedState .inp 0x08) ∧
    decode Config.decided (.state8 .mot) 0x03 = .rejected (.unrecognisedState .mot 0x03) ∧
    decode Config.decided (.state8 .osc) 0x05 = .rejected (.unrecognisedState .osc 0x05) ∧
    decode Config.decided (.state8 .disp) 0x03 = .rejected (.unrecognisedState .disp 0x03) ∧
    decode Config.decided (.state8 .out) 0x02 = .rejected (.unrecognisedState .out 0x02) := by decide

/-- A state register has `STATE_W` bits: with another width another range of codes is unrecognised. -/
theorem test_decode_state_width :
    decode { Config.decided with stateW := 3 } (.state8 .osc) 0x07 = .rejected (.unrecognisedState .osc 0x07) ∧
    decode { Config.decided with stateW := 12 } (.state8 .osc) 0x104 = .rejected (.unrecognisedState .osc 0x104) ∧
    decode Config.decided (.state8 .osc) 0xFF = .rejected (.unrecognisedState .osc 0xFF) := by decide

/-! ## Single steps from the vectors of spec/95_test_vectors.md -/

/-- The block after the boot sequence, with the byte `p` on the port. -/
def ready (p : Byte) : State := { State.reset with boot := .running, tickStarted := true, pinIn := p }

/-- The next state of an outcome (this block has no other outcome here). -/
def after (r : Result) : State :=
  match r with
  | .next t => t
  | .fault _ => State.reset
  | .refused _ => State.reset

/-- V-IN-1. -/
theorem test_raw_of_pin :
    [0xFF#8, 0xFE#8, 0xFD#8, 0xFB#8, 0xF7#8, 0x0E#8, 0x5E#8, 0xF0#8, 0x00#8, 0x0F#8].map rawOfPin =
      [0x0#4, 0x1#4, 0x2#4, 0x4#4, 0x8#4, 0x1#4, 0x1#4, 0xF#4, 0xF#4, 0x0#4] := by decide

/-- V-IN-2, the sixteen values with `power = 0`: the entered state. -/
theorem test_wait_enters_power_off :
    [0xFF#8, 0xFE#8, 0xFD#8, 0xFC#8, 0xFB#8, 0xFA#8, 0xF9#8, 0xF8#8, 0xF7#8, 0xF6#8, 0xF5#8, 0xF4#8, 0xF3#8, 0xF2#8,
      0xF1#8, 0xF0#8].map (fun p => (after (exec .inWait (ready p))).stIn) =
      [0x01, 0x03, 0x04, 0x01, 0x06, 0x01, 0x01, 0x01, 0x05, 0x01, 0x01, 0x01, 0x01, 0x01,
        0x01, 0x01] := by decide

/-- V-IN-2 with `power = 1`: the power code enters `Off`, which clears it and asks for the text. -/
theorem test_wait_power_code_when_on :
    let t := after (exec .inWait { ready 0xFE#8 with power := true })
    t.stIn = 0x02 ∧ t.power = false ∧ t.emitted = [.textUpdate .off] := by decide

/-- V-IN-3. -/
theorem test_press :
    (after (exec .inPress (ready 0xFF#8))).stIn = 0x01 ∧ (after (exec .inPress (ready 0xFD#8))).stIn = 0x07 := by
  decide

/-- V-IN-4: `Off`. -/
theorem test_in_off : (after (exec .inOff { ready 0xFD#8 with power := true })).stIn = 0x07 ∧
    (after (exec .inOff { ready 0xFD#8 with power := true })).power = true := by decide

/-- V-IN-4: `On`. -/
theorem test_in_on : (after (exec .inOn (ready 0xFE#8))).stIn = 0x07 ∧
    (after (exec .inOn (ready 0xFE#8))).power = false := by decide

/-- V-IN-4: `SetSpeed`. -/
theorem test_in_set_speed : (after (exec .inSetSpeed (ready 0xFD#8))).stIn = 0x07 ∧
    (after (exec .inSetSpeed (ready 0xFD#8))).speedIndex = 0 := by decide

/-- V-IN-4: `ToggleTemperatureMode`. -/
theorem test_in_toggle_temperature : (after (exec .inToggleTemperatureMode (ready 0xF7#8))).stIn = 0x07 ∧
    (after (exec .inToggleTemperatureMode (ready 0xF7#8))).temperatureMode = false := by decide

/-- V-IN-4: `ToggleOscillation`. -/
theorem test_in_toggle_oscillation : (after (exec .inToggleOscillation (ready 0xFB#8))).stIn = 0x07 ∧
    (after (exec .inToggleOscillation (ready 0xFB#8))).oscillating = false := by decide

/-- V-IN-4: a button held during `Start` is not decoded. -/
theorem test_in_start : (after (exec .inStart (ready 0xFE#8))).stIn = 0x01 ∧
    (after (exec .inStart (ready 0xFE#8))).power = false := by decide

/-- V-IN-5, by the input code `SPEED` in `Wait`. -/
theorem test_speed_code :
    [((0 : Fin 4), false), (1, false), (2, false), (3, false), (0, true), (3, true)].map (fun x =>
      (after (exec .speed { ready 0xFF#8 with stIn := 0x01, speedIndex := x.1, temperatureMode := x.2 })).speedIndex) =
      [1, 2, 3, 0, 0, 3] := by decide

/-- V-IN-6, by the input codes `OSC` and `TEMP` in `Wait`. -/
theorem test_toggle_codes :
    (after (exec .osc { ready 0xFF#8 with stIn := 0x01 })).oscillating = true ∧
    (after (exec .osc { ready 0xFF#8 with stIn := 0x01, oscillating := true })).oscillating = false ∧
    (after (exec .temp { ready 0xFF#8 with stIn := 0x01 })).temperatureMode = true ∧
    (after (exec .temp { ready 0xFF#8 with stIn := 0x01, temperatureMode := true })).temperatureMode = false := by
  decide

/-- V-IN-7, rows 2 and 9: `POWER` from `Wait`; V-IN-3: `IDLE` from `Press`. -/
theorem test_power_and_idle_codes :
    (after (exec .power { ready 0xFF#8 with stIn := 0x01 })).power = true ∧
    (after (exec .power { ready 0xFF#8 with stIn := 0x01, power := true })).power = false ∧
    (after (exec .idle { ready 0xFE#8 with stIn := 0x07 })).stIn = 0x01 := by decide

/-- V-MOT-7 and R184's example: `Start` does not consult `power`; counts 5 and 12 at speed 0. -/
theorem test_mot_start : (after (exec .motStart { ready 0xFF#8 with power := true, motorEnabled := true })).stMot = 0x01 ∧
    (after (exec .motStart { ready 0xFF#8 with power := true, motorEnabled := true })).motorEnabled = false := by decide

/-- V-MOT-3 (first step) and R184's examples: (duty counter, enable) after. -/
theorem test_mot_on :
    [(30, true), (4, false), (11, true), (3, true)].map (fun x =>
      let t := after (exec .motOn { ready 0xFF#8 with power := true, dutyCounter := x.1, motorEnabled := x.2 })
      (t.dutyCounter, t.motorEnabled)) = [(0, true), (5, true), (0, true), (4, false)] := by decide

/-- V-MOT-4 and V-MOT-5: power off holds the counter; the step back into `On` at 11 wraps with the enable low. -/
theorem test_mot_off :
    (after (exec .motOn { ready 0xFF#8 with dutyCounter := 8, motorEnabled := true })).dutyCounter = 8 ∧
    (after (exec .motOn { ready 0xFF#8 with dutyCounter := 8, motorEnabled := true })).motorEnabled = false ∧
    (after (exec .motOff { ready 0xFF#8 with power := true, dutyCounter := 11 })).dutyCounter = 0 ∧
    (after (exec .motOff { ready 0xFF#8 with power := true, dutyCounter := 11 })).motorEnabled = false := by decide

/-- The registers that the V-OSC tables list. -/
def oscView (r : Result) : Nat × Nat × Nat × Bool :=
  ((after r).stOsc, (after r).phaseElapsed, (after r).pulseCounter, (after r).servoPulseLevel)

/-- An oscillating block with the given outer and inner clock. -/
def sweeping (pe pc : Nat) : State := { ready 0xFF#8 with oscillating := true, phaseElapsed := pe, pulseCounter := pc }

/-- V-OSC-3, rows 1 and 2. -/
theorem test_osc_sweep_left :
    [100, 101].map (fun v => oscView (exec .oscSweepLeft (sweeping v 19))) =
      [(0x02, 101, 0, true), (0x03, 102, 19, false)] := by decide

/-- V-OSC-3, rows 3, 4 and 7 to 10. -/
theorem test_osc_dwell :
    [1000, 1001, 0, 1, 100, 101].map (fun v => oscView (exec .oscDwell (sweeping v 19))) =
      [(0x03, 1001, 19, false), (0x04, 1002, 0, true), (0x03, 1, 19, false), (0x02, 2, 0, true),
        (0x02, 101, 0, true), (0x03, 102, 19, false)] := by decide

/-- V-OSC-3, rows 5 and 6. -/
theorem test_osc_sweep_right :
    [1100, 1101].map (fun v => oscView (exec .oscSweepRight (sweeping v 19))) =
      [(0x04, 1101, 0, true), (0x03, 1, 19, false)] := by decide

/-- V-OSC-4: stopping holds both clocks and forces the level low. -/
theorem test_osc_stop :
    oscView (exec .oscSweepRight { sweeping 1050 2 with oscillating := false, servoPulseLevel := true }) =
      (0x01, 1050, 2, false) ∧
    oscView (exec .oscOff { sweeping 50 10 with oscillating := false, servoPulseLevel := true }) =
      (0x01, 50, 10, false) := by decide

/-- V-OSC-5 (first step) and V-OSC-1 (first step). -/
theorem test_osc_off :
    oscView (exec .oscOff (sweeping 1050 2)) = (0x02, 1051, 3, false) ∧
    oscView (exec .oscOff (sweeping 0 0)) = (0x02, 1, 1, true) := by decide

/-- V-OSC-7. -/
theorem test_osc_start :
    oscView (exec .oscStart { sweeping 0 0 with servoPulseLevel := true }) = (0x01, 0, 0, false) := by decide

/-- V-OSC-6 (steps 11 and 12): a longer second pause. -/
theorem test_osc_dwell2 :
    [10, 11].map (fun v => oscView (exec .oscDwell
      { sweeping v 0 with cfg := { Config.decided with dwell2Limit := 10 } })) =
      [(0x03, 11, 0, false), (0x02, 12, 1, true)] := by decide

/-- V-DISP-1: steps 1, 2, 3 and 4. -/
theorem test_disp :
    [(Instr.dispStart, true, 0#1), (.dispDwell, true, 0#1), (.dispOutput, true, 1#1), (.dispOutput, false, 0#1)].map
      (fun x =>
        let t := after (exec x.1 { ready 0xFF#8 with power := x.2.1, frameIndex := x.2.2 })
        (t.stDisp, t.frameIndex, t.emitted)) =
      [(0x01, 0#1, []), (0x02, 1#1, [.bitmapRedraw 1#1]), (0x02, 0#1, [.bitmapRedraw 0#1]),
        (0x01, 0#1, [])] := by decide

/-- V-OUT-3 and the example of R232. -/
theorem test_out :
    (after (exec .outStart (ready 0xFF#8))).portOut = 0x10#8 ∧
    (after (exec .outStart (ready 0xFF#8))).emitted = [.outWrite 0x10#8] ∧
    (after (exec .outOutput { ready 0xFF#8 with power := true, oscillating := true, motorEnabled := true })).portOut =
      0x1B#8 := by decide

/-- V-OUT-1 (rows 7 and 10) and V-OUT-2: the written word has the fields given. -/
theorem test_outword :
    (after (exec (.outword 1 false true true false) (ready 0xFF#8))).portOut = 0x16#8 ∧
    (after (exec (.outword 1 true false false true) (ready 0xFF#8))).portOut = 0x19#8 ∧
    (after (exec (.outword 2 true true true true) (ready 0xFF#8))).portOut = 0x2F#8 := by decide

/-- V-SCHED-4: the Motor Duty FSM and the Output Composer see the `power` written earlier in the same transaction. -/
theorem test_tick_same_tick :
    let t := after (exec .schedTick
      { ready 0xFE#8 with
        cfg := { Config.decided with period := ⟨1, 1, 1, 1, 1⟩ }
        stIn := 0x01, stMot := 0x01, stOut := 0x01, tickFlag := true })
    t.stIn = 0x03 ∧ t.power = true ∧ t.stMot = 0x02 ∧ t.dutyCounter = 1 ∧ t.motorEnabled = false ∧
      t.portOut = 0x11#8 ∧ t.tickFlag = false := by decide

/-- V-SCHED-1, transactions 10 and 11. -/
theorem test_tick_elapsed :
    [(PerTask.mk 0 1 0 4 0), ⟨1, 0, 0, 0, 0⟩].map (fun e =>
      (after (exec .schedTick
        { ready 0xFF#8 with cfg := { Config.decided with period := ⟨3, 2, 1, 5, 1⟩ }, elapsed := e })).elapsed) =
      [⟨1, 0, 0, 0, 0⟩, ⟨2, 1, 0, 1, 0⟩] := by decide

/-- V-SCHED-5: the registers of that vector. -/
def corrupted : State :=
  { ready 0xFE#8 with
    power := true, oscillating := true, motorEnabled := true, servoPulseLevel := true, dutyCounter := 7
    phaseElapsed := 55, pulseCounter := 9, frameIndex := 1#1, portOut := 0x1F#8
    stIn := 0xAA, stMot := 0xAA, stOsc := 0xAA, stDisp := 0xAA, stOut := 0xAA }

/-- V-SCHED-5, the first step of each FSM. -/
theorem test_unrecognised_first_step :
    runTask .inp corrupted = .next { corrupted with stIn := 0x00, rawInput := 0x1#4 } ∧
    runTask .mot corrupted = .next { corrupted with stMot := 0x00 } ∧
    runTask .osc corrupted = .next { corrupted with stOsc := 0x00 } ∧
    runTask .disp corrupted = .next { corrupted with stDisp := 0x00 } ∧
    runTask .out corrupted = .next { corrupted with stOut := 0x00 } := ⟨rfl, rfl, rfl, rfl, rfl⟩

/-- R273, R60: the first move of the core is the boot operation `configure`. -/
theorem test_first_boot_step : (after (step State.reset)).boot = .start := by decide

/-- A row of the opcode table put where the next step runs it is run: `IN.Press` on a port that shows idle. -/
theorem test_with_fetch_word :
    decodeTableWord 8 0x07 = some .inPress ∧ (after (step (State.reset.withFetchWord 8 0x07))).stIn = 0x01 := by
  decide

/-! ## The hypotheses of the statements can be met

One theorem per statement of Certificates/Slice0/Obligations.lean that has hypotheses, clause by clause and at the ends of
the ranges. -/

theorem witness_DecodeOfEncodeIsInstruction :
    Config.decided.WellFormed ∧ (Instr.outword 3 true true true true).wellFormed = true := by decide

theorem witness_EncodeOfDecodeIsFormatBits :
    decode Config.decided .rawin4 0xF8 = .instr .temp ∧
    decode Config.decided .out8 0x3F = .instr (.outword 3 true true true true) := by decide

/-- The first unrecognised code, the last recognised one and the widest code of a register. -/
theorem witness_UnrecognisedCodesAreRejected :
    0x08 < 2 ^ Config.decided.stateW ∧ 0x07 < 2 ^ Config.decided.stateW ∧ 0xFF < 2 ^ Config.decided.stateW := by
  decide

theorem witness_SnapshotComplementsLowNibble :
    Instr.inPress ∈ taskSteps .inp ∧ 0x0E#8 &&& 0x0F#8 = (ready 0xFE#8).pinIn &&& 0x0F#8 := by decide

theorem witness_OffClearsPower :
    let s : State := { ready 0xFE#8 with power := true }
    (~~~s.pinIn).setWidth 4 = s.cfg.codePower ∧ s.power = true ∧ .inWait ∈ taskSteps .inp ∧
      exec .inWait s = .next (after (exec .inWait s)) ∧ (after (exec .inWait s)).stIn = 0x02 :=
  ⟨by decide, rfl, by decide, rfl, rfl⟩

theorem witness_OnSetsPower :
    let s : State := ready 0xFE#8
    (~~~s.pinIn).setWidth 4 = s.cfg.codePower ∧ s.power = false ∧ .inWait ∈ taskSteps .inp ∧
      exec .inWait s = .next (after (exec .inWait s)) ∧ (after (exec .inWait s)).stIn = 0x03 :=
  ⟨by decide, rfl, by decide, rfl, rfl⟩

theorem witness_SetSpeedAdvancesCyclically :
    let s (v : Fin 4) (tm : Bool) : State := { ready 0xFD#8 with speedIndex := v, temperatureMode := tm }
    (s 0 true).cfg.WellFormed ∧ (~~~(s 0 true).pinIn).setWidth 4 = (s 0 true).cfg.codeSpeed ∧
      (s 3 true).temperatureMode = true ∧
      ((s 3 false).temperatureMode = false ∧ (s 3 false).speedIndex.val + 1 ≥ NSPEED) ∧
      ((s 2 false).temperatureMode = false ∧ (s 2 false).speedIndex.val + 1 < NSPEED) ∧
      exec .inWait (s 2 false) = .next (after (exec .inWait (s 2 false))) ∧
      (after (exec .inWait (s 2 false))).stIn = 0x04 :=
  ⟨by decide, by decide, rfl, ⟨rfl, by decide⟩, ⟨rfl, by decide⟩, rfl, rfl⟩

theorem witness_TemperatureModeToggles :
    let s : State := ready 0xF7#8
    s.cfg.WellFormed ∧ (~~~s.pinIn).setWidth 4 = s.cfg.codeTemp ∧ .inWait ∈ taskSteps .inp ∧
      exec .inWait s = .next (after (exec .inWait s)) ∧ (after (exec .inWait s)).stIn = 0x05 :=
  ⟨by decide, by decide, by decide, rfl, rfl⟩

theorem witness_OscillationToggles :
    let s : State := ready 0xFB#8
    let u : State := { s with stOsc := 0x01, stIn := 0x01, elapsed := ⟨99, 0, 0, 0, 0⟩ }
    s.cfg.WellFormed ∧ (~~~s.pinIn).setWidth 4 = s.cfg.codeOsc ∧ .inWait ∈ taskSteps .inp ∧
      exec .inWait s = .next (after (exec .inWait s)) ∧ (after (exec .inWait s)).stIn = 0x06 ∧
      exec .schedTick u = .next (after (exec .schedTick u)) ∧
      u.cfg.period.osc ≤ (u.elapsed.osc + 1) % 2 ^ u.cfg.elapsedW ∧
      u.stOsc ∈ [0x01, 0x02, 0x03, 0x04] ∧ (after (exec .schedTick u)).stOsc = 0x02 :=
  ⟨by decide, by decide, by decide, rfl, rfl, rfl, by decide, by decide, by decide⟩

theorem witness_PressWaitsForRelease :
    Instr.inSetSpeed ∈ [Instr.inOff, .inOn, .inSetSpeed, .inToggleTemperatureMode, .inToggleOscillation] ∧
    (~~~(ready 0xFF#8).pinIn).setWidth 4 = (ready 0xFF#8).cfg.codeIdle ∧
    (~~~(ready 0xFC#8).pinIn).setWidth 4 ≠ (ready 0xFC#8).cfg.codeIdle := by decide

theorem witness_InputCodesActFromWait :
    ({ ready 0xFF#8 with stIn := 0x01, power := true } : State).cfg.WellFormed ∧
    ({ ready 0xFF#8 with stIn := 0x01, power := true } : State).stIn = 0x01 ∧
    ({ ready 0xFF#8 with stIn := 0x01 } : State).power = false := by decide

theorem witness_InputCodesInPress :
    ({ ready 0xFF#8 with stIn := 0x07 } : State).cfg.WellFormed ∧
    ({ ready 0xFF#8 with stIn := 0x07 } : State).stIn = 0x07 := by decide

theorem witness_InputCodeIsTheStepThatSamplesIt :
    (~~~(ready 0xFF#8).pinIn).setWidth 4 = Config.decided.codeIdle ∧
    (~~~(ready 0xFE#8).pinIn).setWidth 4 = Config.decided.codePower ∧
    (~~~(ready 0xFD#8).pinIn).setWidth 4 = Config.decided.codeSpeed ∧
    (~~~(ready 0xFB#8).pinIn).setWidth 4 = Config.decided.codeOsc ∧
    (~~~(ready 0xF7#8).pinIn).setWidth 4 = Config.decided.codeTemp := by decide

theorem witness_AtMostOneModeRegisterChanges :
    Instr.inPress ∈ taskSteps .inp ∧ Instr.inPress ≠ .inWait ∧
      exec .inPress (ready 0xFE#8) = .next (after (exec .inPress (ready 0xFE#8))) :=
  ⟨by decide, by decide, rfl⟩

/-- The increments 4, 5, 11 and 12 at speed 0: below the threshold, at it, at the duty value, past it. -/
theorem witness_MotorOffStep :
    let s (pw : Bool) (n : Nat) : State := { ready 0xFF#8 with power := pw, dutyCounter := n }
    let d (n : Nat) : Nat := ((s true n).dutyCounter + 1) % 2 ^ (s true n).cfg.dutyCtrW
    (s false 0).power = false ∧ ((s true 3).power = true ∧ d 3 < (s true 3).cfg.dutyLowThreshold) ∧
      ((s true 4).cfg.dutyLowThreshold ≤ d 4 ∧ d 4 ≤ (s true 4).cfg.dutyTable.get (s true 4).speedIndex) ∧
      ((s true 10).cfg.dutyLowThreshold ≤ d 10 ∧ d 10 ≤ (s true 10).cfg.dutyTable.get (s true 10).speedIndex) ∧
      ((s true 11).cfg.dutyLowThreshold ≤ d 11 ∧ (s true 11).cfg.dutyTable.get (s true 11).speedIndex < d 11) := by
  decide

/-- The same with the speed whose table entry is the largest. -/
theorem witness_MotorOnStep :
    let s (pw : Bool) (n : Nat) : State := { ready 0xFF#8 with power := pw, dutyCounter := n, speedIndex := 3 }
    let d (n : Nat) : Nat := ((s true n).dutyCounter + 1) % 2 ^ (s true n).cfg.dutyCtrW
    (s false 0).power = false ∧ ((s true 3).power = true ∧ d 3 < (s true 3).cfg.dutyLowThreshold) ∧
      ((s true 4).cfg.dutyLowThreshold ≤ d 4 ∧ d 4 ≤ (s true 4).cfg.dutyTable.get (s true 4).speedIndex) ∧
      ((s true 99).cfg.dutyLowThreshold ≤ d 99 ∧ d 99 ≤ (s true 99).cfg.dutyTable.get (s true 99).speedIndex) ∧
      ((s true 100).cfg.dutyLowThreshold ≤ d 100 ∧
        (s true 100).cfg.dutyTable.get (s true 100).speedIndex < d 100) := by
  decide

theorem witness_DutyCounterStaysWithinTable :
    let s : State := { ready 0xFF#8 with power := true, stMot := 0x02, dutyCounter := 100 }
    s.cfg.WellFormed ∧ s.dutyCounter ≤ s.cfg.dutyTable.d3 ∧ runTask .mot s = .next (after (runTask .mot s)) :=
  ⟨by decide, by decide, rfl⟩

theorem witness_MotorWaveform :
    let s : State := { ready 0xFF#8 with power := true, stMot := 0x01 }
    s.cfg.WellFormed ∧ s.power = true ∧ (s.stMot = 0x01 ∨ s.stMot = 0x02) ∧ s.dutyCounter = 0 ∧
      1 ≤ 11 ∧ 11 ≤ s.cfg.dutyTable.get s.speedIndex := by decide

theorem witness_OscillatorOffStep : (sweeping 0 0).oscillating = true ∧ (ready 0xFF#8).oscillating = false := by decide

theorem witness_SweepLeftStep :
    (ready 0xFF#8).oscillating = false ∧
    ((sweeping 101 0).oscillating = true ∧ (sweeping 101 0).phaseElapsed > (sweeping 101 0).cfg.sweepLLimit) ∧
    ((sweeping 100 0).oscillating = true ∧ (sweeping 100 0).phaseElapsed ≤ (sweeping 100 0).cfg.sweepLLimit) ∧
    .oscDwell ∈ taskSteps .osc ∧ exec .oscDwell (sweeping 1 19) = .next (after (exec .oscDwell (sweeping 1 19))) ∧
    (after (exec .oscDwell (sweeping 1 19))).stOsc = 0x02 :=
  ⟨rfl, by decide, by decide, by decide, rfl, by decide⟩

theorem witness_DwellStep :
    (sweeping 0 0).cfg.WellFormed ∧ (ready 0xFF#8).oscillating = false ∧
    (sweeping 1001 0).phaseElapsed > (sweeping 1001 0).cfg.dwellLimit ∧
    ((sweeping 1 0).cfg.dwell2Limit < (sweeping 1 0).phaseElapsed ∧
      (sweeping 1 0).phaseElapsed ≤ (sweeping 1 0).cfg.sweepLLimit) ∧
    ((sweeping 100 0).cfg.dwell2Limit < (sweeping 100 0).phaseElapsed ∧
      (sweeping 100 0).phaseElapsed ≤ (sweeping 100 0).cfg.sweepLLimit) ∧
    (sweeping 0 0).phaseElapsed ≤ (sweeping 0 0).cfg.dwell2Limit ∧
    ((sweeping 101 0).cfg.sweepLLimit < (sweeping 101 0).phaseElapsed ∧
      (sweeping 101 0).phaseElapsed ≤ (sweeping 101 0).cfg.dwellLimit) ∧
    ((sweeping 1000 0).cfg.sweepLLimit < (sweeping 1000 0).phaseElapsed ∧
      (sweeping 1000 0).phaseElapsed ≤ (sweeping 1000 0).cfg.dwellLimit) := by decide

theorem witness_SweepRightStep :
    (sweeping 0 0).cfg.WellFormed ∧ (ready 0xFF#8).oscillating = false ∧
    ((sweeping 1101 0).oscillating = true ∧ (sweeping 1101 0).phaseElapsed > (sweeping 1101 0).cfg.sweepRLimit) ∧
    ((sweeping 1100 0).oscillating = true ∧ (sweeping 1100 0).phaseElapsed ≤ (sweeping 1100 0).cfg.sweepRLimit) ∧
    .oscDwell ∈ taskSteps .osc ∧
    exec .oscDwell (sweeping 1001 19) = .next (after (exec .oscDwell (sweeping 1001 19))) ∧
    (after (exec .oscDwell (sweeping 1001 19))).stOsc = 0x04 :=
  ⟨by decide, rfl, by decide, by decide, by decide, rfl, by decide⟩

theorem witness_PulseTrainInsideSweep :
    let l : State := { sweeping 1 19 with stOsc := 0x02 }
    let r : State := { sweeping 1002 0 with stOsc := 0x04 }
    (l.cfg.WellFormed ∧ l.oscillating = true ∧ l.pulseCounter < l.cfg.pulsePeriod ∧ 1 ≤ 100) ∧
      (l.stOsc = 0x02 ∧ l.phaseElapsed + 100 ≤ l.cfg.sweepLLimit + 1) ∧
      (r.stOsc = 0x04 ∧ r.phaseElapsed + 99 ≤ r.cfg.sweepRLimit + 1 ∧ r.pulseCounter < r.cfg.pulsePeriod) := by
  decide

theorem witness_OscillatorStopsWithinOneStep :
    Instr.oscStart ∈ taskSteps .osc ∧ Instr.oscSweepRight ∈ taskSteps .osc ∧ (ready 0xFF#8).oscillating = false := by
  decide

theorem witness_OscillatorIgnoresPower :
    Instr.oscDwell ∈ taskSteps .osc ∧ exec .oscDwell (sweeping 1 19) = .next (after (exec .oscDwell (sweeping 1 19))) :=
  ⟨by decide, rfl⟩

theorem witness_PhaseClockAdvancesOnlyInActivePhases :
    (exec .oscDwell (sweeping 1001 0) = .next (after (exec .oscDwell (sweeping 1001 0))) ∧
      (after (exec .oscDwell (sweeping 1001 0))).stOsc ∈ [0x02, 0x03, 0x04] ∧ Instr.oscDwell ≠ .oscSweepRight) ∧
    (exec .oscSweepRight (sweeping 1101 0) = .next (after (exec .oscSweepRight (sweeping 1101 0))) ∧
      (after (exec .oscSweepRight (sweeping 1101 0))).stOsc = 0x03) ∧
    (exec .oscDwell (ready 0xFF#8) = .next (after (exec .oscDwell (ready 0xFF#8))) ∧
      (after (exec .oscDwell (ready 0xFF#8))).stOsc ∉ [0x02, 0x03, 0x04]) :=
  ⟨⟨rfl, by decide, by decide⟩, ⟨rfl, by decide⟩, rfl, by decide⟩

theorem witness_RestartPassesTheBoundOfThePhaseClock :
    (sweeping 1101 0).cfg.WellFormed ∧ (sweeping 1101 0).oscillating = true ∧
    (sweeping 1101 0).phaseElapsed = (sweeping 1101 0).cfg.sweepRLimit + 1 ∧
    (sweeping 1101 0).cfg.sweepRLimit + 2 < 2 ^ (sweeping 1101 0).cfg.phaseW := by decide

theorem witness_PhaseClockResetsWithinThreeSteps :
    let s (c : Nat) (n : Nat) : State := { sweeping n 0 with stOsc := c }
    (s 0x02 1101).cfg.WellFormed ∧ (s 0x02 1101).oscillating = true ∧
      (∀ n ∈ [1101, 65532], (s 0x02 n).stOsc ∈ [0x02, 0x03, 0x04] ∧
        (s 0x02 n).cfg.sweepRLimit < (s 0x02 n).phaseElapsed ∧
        (s 0x02 n).phaseElapsed + 3 < 2 ^ (s 0x02 n).cfg.phaseW) ∧
      max (s 0x01 65532).phaseElapsed (s 0x01 65532).cfg.sweepRLimit + 3 < 2 ^ (s 0x01 65532).cfg.phaseW ∧
      ((s 0x01 100).stOsc ∈ [0x00, 0x01] ∧ (s 0x01 100).phaseElapsed ≤ (s 0x01 100).cfg.sweepLLimit) := by
  decide

theorem witness_DisplayDwellStep :
    (ready 0xFF#8).power = false ∧ ({ ready 0xFF#8 with power := true } : State).power = true := by decide

theorem witness_DisplayOutputStep :
    let s : State := { ready 0xFF#8 with power := true }
    s.power = true ∧ (ready 0xFF#8).power = false ∧ .dispDwell ∈ taskSteps .disp ∧ Instr.dispDwell ≠ .dispStart ∧
      (exec .dispDwell s = .next (after (exec .dispDwell s)) ∧ (after (exec .dispDwell s)).stDisp = 0x02) ∧
      (exec .dispOutput (ready 0xFF#8) = .next (after (exec .dispOutput (ready 0xFF#8))) ∧
        (after (exec .dispOutput (ready 0xFF#8))).stDisp ≠ 0x02) :=
  ⟨rfl, rfl, by decide, by decide, ⟨rfl, by decide⟩, rfl, by decide⟩

theorem witness_ComposerWritesPackedWord :
    Instr.outStart ∈ taskSteps .out ∧ Instr.outOutput ∈ taskSteps .out ∧
    ({ ready 0xFF#8 with cfg := { Config.decided with dirCode := 3 } } : State).cfg.dirCode ≤ 3 := by decide

theorem witness_OutwordWritesItsFields :
    3 ≤ 3 ∧ ({ ready 0xFF#8 with stOut := 0x01 } : State).stOut = 0x01 := by decide

theorem witness_UnrecognisedStateReturnsToStart :
    let s : State := { ready 0xFF#8 with stIn := 0x08, stMot := 0x03, stOsc := 0x05, stDisp := 0x03, stOut := 0x02 }
    8 ≤ s.st .inp ∧ 3 ≤ s.st .mot ∧ 5 ≤ s.st .osc ∧ 3 ≤ s.st .disp ∧ 2 ≤ s.st .out := by decide

theorem witness_StartIsInitialOnly :
    ((ready 0xFF#8).cfg.WellFormed ∧ runTask .osc (ready 0xFF#8) = .next (after (runTask .osc (ready 0xFF#8))) ∧
      stateInstr .osc ((ready 0xFF#8).st .osc) ≠ none) ∧
    (corrupted.cfg.WellFormed ∧ runTask .osc corrupted = .next (after (runTask .osc corrupted)) ∧
      stateInstr .osc (corrupted.st .osc) = none) :=
  ⟨⟨by decide, rfl, by decide⟩, by decide, rfl, by decide⟩

/-- Counters of which some reach their period in the next transaction (at it, and past it) and some do not. -/
def mixed : State := { ready 0xFE#8 with stIn := 0x01, elapsed := ⟨98, 0, 3, 499, 0⟩ }

theorem witness_TickTransactionCompletes :
    (mixed.elapsed.get .inp + 1) % 2 ^ mixed.cfg.elapsedW < mixed.cfg.period.get .inp ∧
    mixed.cfg.period.get .mot ≤ (mixed.elapsed.get .mot + 1) % 2 ^ mixed.cfg.elapsedW ∧
    mixed.cfg.period.get .disp ≤ (mixed.elapsed.get .disp + 1) % 2 ^ mixed.cfg.elapsedW := by decide

theorem witness_DueTasksRunOnceInOrder :
    mixed.cfg.period.get .osc ≤ (mixed.elapsed.get .osc + 1) % 2 ^ mixed.cfg.elapsedW ∧
    ¬ mixed.cfg.period.get .inp ≤ (mixed.elapsed.get .inp + 1) % 2 ^ mixed.cfg.elapsedW ∧
    (mixed.cfg.WellFormed ∧ mixed.cfg.period.get .mot = 1 ∧ mixed.elapsed.get .mot < mixed.cfg.period.get .mot) := by
  decide

theorem witness_UndueTaskIsUntouched :
    let s : State := { ready 0xFE#8 with cfg := { Config.decided with period := ⟨2, 2, 2, 2, 2⟩ } }
    exec .schedTick s = .next (after (exec .schedTick s)) ∧
      ∀ k ∈ [Task.inp, .mot, .osc, .disp, .out],
        (s.elapsed.get k + 1) % 2 ^ s.cfg.elapsedW < s.cfg.period.get k :=
  ⟨rfl, by decide⟩

theorem witness_EveryRegisterHasOneWriter :
    (exec .motOn (ready 0xFF#8) = .next (after (exec .motOn (ready 0xFF#8))) ∧ Instr.motOn ≠ .schedTick ∧
      .motOn ∉ taskSteps .inp ∧ .motOn ∉ inputCodes ∧ .motOn ∉ taskSteps .osc ∧ .motOn ∉ taskSteps .disp ∧
      .motOn ∉ taskSteps .out ∧ ∀ d m sv o p, Instr.motOn ≠ .outword d m sv o p) ∧
    (exec .power (ready 0xFF#8) = .next (after (exec .power (ready 0xFF#8))) ∧ .power ∉ taskSteps .mot) :=
  ⟨⟨rfl, by decide, by decide, by decide, by decide, by decide, by decide, fun _ _ _ _ _ h => by cases h⟩, rfl,
    by decide⟩

theorem witness_PortShowsEndOfTransaction :
    let s : State := { ready 0xFF#8 with stOut := 0x01, power := true, stMot := 0x01 }
    s.cfg.WellFormed ∧ s.cfg.period.out = 1 ∧ s.elapsed.out = 0 ∧ OutState.ofCode (s.st .out) ≠ none ∧
      exec .schedTick s = .next (after (exec .schedTick s)) :=
  ⟨by decide, rfl, rfl, by decide, rfl⟩

theorem witness_MotorOffAtEndOfTransaction :
    let s : State := { ready 0xFF#8 with stMot := 0x02, motorEnabled := true }
    s.cfg.WellFormed ∧ s.cfg.period.mot = 1 ∧ s.elapsed.mot = 0 ∧ MotState.ofCode (s.st .mot) ≠ none ∧
      exec .schedTick s = .next (after (exec .schedTick s)) ∧ (after (exec .schedTick s)).power = false :=
  ⟨by decide, rfl, rfl, by decide, rfl, by decide⟩

theorem witness_ServoLowAtEndOfTransaction :
    let s : State := { ready 0xFF#8 with stOsc := 0x04, servoPulseLevel := true }
    s.cfg.WellFormed ∧ s.cfg.period.osc = 1 ∧ s.elapsed.osc = 0 ∧ OscState.ofCode (s.st .osc) ≠ none ∧
      exec .schedTick s = .next (after (exec .schedTick s)) ∧ (after (exec .schedTick s)).oscillating = false :=
  ⟨by decide, rfl, rfl, by decide, rfl, by decide⟩

theorem witness_UnsampledPortIsNotObserved :
    (mixed.elapsed.inp + 1) % 2 ^ mixed.cfg.elapsedW < mixed.cfg.period.inp ∧
      exec .schedTick mixed = .next (after (exec .schedTick mixed)) :=
  ⟨by decide, rfl⟩

theorem witness_UpperPortBitsAreNotObserved :
    let s : State := { mixed with elapsed := ⟨99, 0, 0, 0, 0⟩ }
    0x5E#8 &&& 0x0F#8 = s.pinIn &&& 0x0F#8 ∧ exec .schedTick s = .next (after (exec .schedTick s)) :=
  ⟨by decide, rfl⟩

theorem witness_StepTimesFollowPeriods :
    (ready 0xFF#8).cfg.WellFormed ∧
      ∀ k ∈ [Task.inp, .mot, .osc, .disp, .out], (ready 0xFF#8).elapsed.get k = 0 := by decide

theorem witness_StepRunsTheFetchedInstruction :
    let s (ms : List Move) : State := { ready 0xFF#8 with tickFlag := true, agenda := ms }
    (s []).cfg.WellFormed ∧ (s []).boot = .running ∧
      decode (s []).cfg .event (s []).tickFlag.toNat = .instr .schedTick ∧ (s []).agenda = [] ∧
      (s [.core, .tick]).agenda = .core :: [.tick] := by decide

theorem witness_TaskRunsTheDecodedStep :
    let s (n : Nat) : State := { ready 0xFF#8 with stDisp := 0x02, elapsed := ⟨0, 0, 0, n, 0⟩ }
    decode (s 500).cfg (.state8 .disp) ((s 500).st .disp) = .instr .dispOutput ∧
      ((s 500).cfg.period.get .disp ≤ (s 500).elapsed.get .disp ∧
        exec .dispOutput (s 500) = .next (after (exec .dispOutput (s 500)))) ∧
      (s 499).elapsed.get .disp < (s 499).cfg.period.get .disp :=
  ⟨by decide, ⟨by decide, rfl⟩, by decide⟩

theorem witness_CoreWaitsForTheTick :
    (ready 0xFF#8).cfg.WellFormed ∧ (ready 0xFF#8).boot = .running ∧ (ready 0xFF#8).agenda = [] ∧
    (ready 0xFF#8).tickFlag = false ∧ ({ ready 0xFF#8 with tickFlag := true } : State).tickFlag = true := by decide

theorem witness_LateTickIsLost :
    let s (st : Bool) (ms : List Move) : State := { ready 0xFF#8 with tickStarted := st, agenda := ms }
    (s true [.tick]).cfg.WellFormed ∧ ((s true [.tick]).agenda = .tick :: [] ∧ (s true [.tick]).tickStarted = true) ∧
      (s true [.tick, .tick]).agenda = .tick :: .tick :: [] ∧
      ((s false [.tick]).agenda = .tick :: [] ∧ (s false [.tick]).tickStarted = false) := by decide

theorem witness_PresentingAByteChangesOnlyThePort :
    let s : State := { ready 0xFF#8 with agenda := [.present 0xFE#8, .tick] }
    s.cfg.WellFormed ∧ s.agenda = .present 0xFE#8 :: [.tick] := by decide

/-- Right after reset; with another configuration and port byte; and between the two boot operations. -/
theorem witness_BootConfiguresThenStarts :
    let u : State := State.resetWith { Config.decided with period := ⟨1, 1, 1, 1, 1⟩ } 0x00#8 []
    let s : State := { State.reset with boot := .start }
    (u.cfg.WellFormed ∧ u.agenda = [] ∧ u.boot = .configure ∧ u.tickFlag = false) ∧
      (s.cfg.WellFormed ∧ s.agenda = [] ∧ s.boot = .start) :=
  ⟨⟨by decide, rfl, rfl, rfl⟩, by decide, rfl, rfl⟩

theorem witness_ResetRestoresEveryElement :
    let s : State := { corrupted with agenda := [.reset, .core] }
    s.cfg.WellFormed ∧ s.agenda = .reset :: [.core] := by decide

theorem witness_NoStepStops : corrupted.cfg.WellFormed := by decide

theorem witness_IllFormedConfigurationIsRefused :
    ¬ ({ ready 0xFF#8 with cfg := { Config.decided with dirCode := 4 } } : State).cfg.WellFormed := by decide

theorem witness_EveryStepKeepsTheInvariant :
    let s : State := { ready 0xFE#8 with tickFlag := true, stIn := 0x01, elapsed := ⟨99, 0, 0, 499, 0⟩ }
    s.Inv ∧ step s = .next (after (step s)) ∧ s.PhaseInRange :=
  ⟨⟨by decide, by decide, by decide, by decide, by decide, by decide⟩, rfl, by decide⟩

/-- R205, R211: the two sides of the last clause. Switched off at 1098 the clock stays in range, at 1099 it does not. -/
theorem test_late_stop :
    let s (n : Nat) : State :=
      { ready 0xFF#8 with tickFlag := true, stOsc := 0x04, oscillating := false, phaseElapsed := n, stIn := 0x01 }
    let t (n : Nat) : State := after (step (s n))
    (s 1098).PhaseInRange ∧ (t 1098).PhaseInRange ∧ ¬ (s 1098).StoppedLate (t 1098) ∧
      (s 1101).PhaseInRange ∧ ¬ (t 1099).PhaseInRange ∧ (s 1099).StoppedLate (t 1099) ∧ (s 1101).StoppedLate (t 1101) :=
  ⟨by decide, by decide, by decide, by decide, by decide, by decide, by decide⟩

/-- The boot operation, and a tick that arrives before it. -/
theorem witness_ConstantsNeverChange :
    let s (ms : List Move) : State := { State.reset with agenda := ms }
    (step (s []) = .next (after (step (s []))) ∧ (s []).boot = .configure) ∧
      (step (s [.tick]) = .next (after (step (s [.tick]))) ∧
        (after (step (s [.tick]))).tickPeriod = (s [.tick]).tickPeriod) :=
  ⟨⟨rfl, rfl⟩, rfl, rfl⟩

end Sys2Proof.Tests
end

