-- ==== Sys2Proof/Proofs/InputSnapshot.lean ====
section
/-! PROOF. The snapshot of the raw input port (R101): every step of the Input Interpreter samples it (R151), whatever
state it starts from and whatever state it enters. -/

namespace Sys2Proof.Machine

/-! ### The steps of the Input Interpreter, indexed by the state they start from -/

theorem exists_instr_of_mem_taskSteps_inp {i : Instr} (hi : i ∈ taskSteps .inp) : ∃ st : InState, i = st.instr := by
  simp only [taskSteps, List.mem_cons, List.not_mem_nil, or_false] at hi
  obtain h | h | h | h | h | h | h | h := hi
  · exact ⟨.start, h⟩
  · exact ⟨.wait, h⟩
  · exact ⟨.off, h⟩
  · exact ⟨.on, h⟩
  · exact ⟨.setSpeed, h⟩
  · exact ⟨.toggleTemperatureMode, h⟩
  · exact ⟨.toggleOscillation, h⟩
  · exact ⟨.press, h⟩

/-- One equation for the eight steps: each samples the port and goes on from its own state (R137, R151). -/
theorem exec_inState_instr (st : InState) (s : State) : exec st.instr s = .next (inStepFrom st s.samplePin s) := by
  cases st <;> rfl

/-- No transition and no action overwrites the snapshot that the step began with. -/
@[simp] theorem inStepFrom_rawInput (st : InState) (raw : Nibble) (s : State) :
    (inStepFrom st raw s).rawInput = raw := by
  rw [inStepFrom_eq]

/-! ### The snapshot as a function of the port byte -/

theorem State.samplePin_eq (s : State) : s.samplePin = rawOfPin s.pinIn := rfl

/-- R101: a high line contributes a 0, a low line a 1. -/
theorem rawOfPin_getLsbD (p : Byte) {k : Nat} (hk : k < 4) : (rawOfPin p).getLsbD k = !p.getLsbD k := by
  have hk8 : k < 8 := by omega
  simp [rawOfPin_eq, hk, hk8]

/-- Settles O6: a step leaves in `rawInput` what `rawOfPin` makes of the port byte, so the three clauses are facts about
`rawOfPin`. -/
theorem snapshotComplementsLowNibble : Obligations.SnapshotComplementsLowNibble := by
  intro s i hi
  obtain ⟨st, rfl⟩ := exists_instr_of_mem_taskSteps_inp hi
  refine ⟨_, exec_inState_instr st s, ?_⟩
  rw [inStepFrom_rawInput, State.samplePin_eq]
  refine ⟨rawOfPin_setWidth s.pinIn, fun k hk => rawOfPin_getLsbD s.pinIn hk, fun p hp => ?_⟩
  refine ⟨_, exec_inState_instr st { s with pinIn := p }, ?_⟩
  rw [inStepFrom_rawInput, State.samplePin_eq]
  exact rawOfPin_of_low_nibble hp

end Sys2Proof.Machine
end

/-! PROOF. The Input Interpreter (R154 to R162): which snapshot selects which action state, what the entered action state
does, in which way alone it is entered, how it is left; and that the Oscillator sees a toggled `oscillating` in the same tick
transaction. -/

namespace Sys2Proof.Machine

/-! ### The button decode, read backwards (R155)

Each destination of the power code has its snapshot to itself; the others also tell which codes were tested before. -/

theorem decodeButton_eq_off_iff {c : Config} {r : Nibble} {pw : Bool} :
    decodeButton c r pw = .off ↔ r = c.codePower ∧ pw = true := by
  rw [decodeButton_eq]
  split_ifs <;> simp_all

theorem decodeButton_eq_on_iff {c : Config} {r : Nibble} {pw : Bool} :
    decodeButton c r pw = .on ↔ r = c.codePower ∧ pw = false := by
  rw [decodeButton_eq]
  split_ifs <;> simp_all

theorem decodeButton_eq_setSpeed_iff {c : Config} {r : Nibble} {pw : Bool} :
    decodeButton c r pw = .setSpeed ↔ r ≠ c.codePower ∧ r = c.codeSpeed := by
  rw [decodeButton_eq]
  split_ifs <;> simp_all

theorem decodeButton_eq_toggleOscillation_iff {c : Config} {r : Nibble} {pw : Bool} :
    decodeButton c r pw = .toggleOscillation ↔ r ≠ c.codePower ∧ r ≠ c.codeSpeed ∧ r = c.codeOsc := by
  rw [decodeButton_eq]
  split_ifs <;> simp_all

theorem decodeButton_eq_toggleTemperatureMode_iff {c : Config} {r : Nibble} {pw : Bool} :
    decodeButton c r pw = .toggleTemperatureMode ↔
      r ≠ c.codePower ∧ r ≠ c.codeSpeed ∧ r ≠ c.codeOsc ∧ r = c.codeTemp := by
  rw [decodeButton_eq]
  split_ifs <;> simp_all

/-! ### Entering a state -/

/-- The step from `Wait`, once it is known what the snapshot decodes to. -/
theorem exec_inWait_of_decode {s : State} {r : Nibble} {e : InState} (hr : s.samplePin = r)
    (he : decodeButton s.cfg r s.power = e) :
    exec .inWait s = .next (inAction e ((s.snapshot r).setSt .inp e.code)) := by
  subst hr he
  rfl

theorem inStepFrom_stIn (st : InState) (r : Nibble) (s : State) :
    (inStepFrom st r s).stIn = (inTransition st (s.snapshot r)).code := by
  rw [inStepFrom_eq]

/-- A step that ends in an action state is the step from `Wait`, and the snapshot decodes to that state. -/
theorem exec_enters_action {s t : State} {i : Instr} (e : InState) (hi : i ∈ taskSteps .inp) (h : exec i s = .next t)
    (ht : t.stIn = e.code) (he : e ≠ .wait ∧ e ≠ .press) :
    i = .inWait ∧ decodeButton s.cfg s.samplePin s.power = e := by
  obtain ⟨st, rfl⟩ := exists_instr_of_mem_taskSteps_inp hi
  rw [exec_inState_instr] at h
  cases h
  rw [inStepFrom_stIn] at ht
  obtain ⟨rfl, hd⟩ := inTransition_action (InState.code_inj ht) he
  exact ⟨rfl, hd⟩

/-- `Wait` and `Press` have no action: a step that enters one of them writes the snapshot and the code only (R154, R162). -/
theorem exec_enters_actionless (st : InState) {e : InState} {s : State}
    (h : inTransition st (s.snapshot s.samplePin) = e) (he : e = .wait ∨ e = .press) :
    exec st.instr s = .next { s with rawInput := s.samplePin, stIn := e.code } := by
  rw [exec_inState_instr]
  subst h
  obtain he | he := he <;> simp only [inStepFrom, he] <;> rfl

/-- A step that enters `Press`. From an action state that is its one transition, so there the premise holds by the
definition of the transition (R156 to R160). -/
theorem exec_enters_press (st : InState) {s : State} (h : inTransition st (s.snapshot s.samplePin) = .press) :
    exec st.instr s = .next { s with rawInput := (~~~s.pinIn).setWidth 4, stIn := 0x07 } :=
  exec_enters_actionless st h (.inr rfl)

/-! ### Power (R156, R157) -/

/-- Settles O8: the power code decodes to `Off` exactly when `power` is set, and no other snapshot does. -/
theorem offClearsPower : Obligations.OffClearsPower := by
  refine ⟨fun s hr hp => ?_, fun _ => exec_enters_press .off rfl, fun s t i hi h ht => ?_⟩
  · exact exec_inWait_of_decode hr (decodeButton_eq_off_iff.2 ⟨rfl, hp⟩)
  · obtain ⟨hw, hd⟩ := exec_enters_action .off hi h ht (by decide)
    exact ⟨hw, decodeButton_eq_off_iff.1 hd⟩

/-- Settles O9: the power code decodes to `On` exactly when `power` is clear, and no other snapshot does. -/
theorem onSetsPower : Obligations.OnSetsPower := by
  refine ⟨fun s hr hp => ?_, fun _ => exec_enters_press .on rfl, fun s t i hi h ht => ?_⟩
  · exact exec_inWait_of_decode hr (decodeButton_eq_on_iff.2 ⟨rfl, hp⟩)
  · obtain ⟨hw, hd⟩ := exec_enters_action .on hi h ht (by decide)
    exact ⟨hw, decodeButton_eq_on_iff.1 hd⟩

/-! ### Speed (R158) -/

theorem nextSpeed_of_last {i : Fin NSPEED} (h : i.val + 1 ≥ NSPEED) : (nextSpeed i).val = 0 := by
  rw [nextSpeed, dif_pos h]
  rfl

theorem nextSpeed_of_lt {i : Fin NSPEED} (h : i.val + 1 < NSPEED) : (nextSpeed i).val = i.val + 1 := by
  rw [nextSpeed, dif_neg (Nat.not_le.2 h)]

/-- Settles O10: the codes being pairwise different (R9 (f)), the speed code is not taken for the power code, which is
tested first; the new index is the cyclic successor or the old one. -/
theorem setSpeedAdvancesCyclically : Obligations.SetSpeedAdvancesCyclically := by
  refine ⟨fun s hwf hr => ?_, fun _ => exec_enters_press .setSpeed rfl, fun s t i hi h ht => ?_⟩
  · obtain ⟨-, -, -, -, -, ⟨-, -, -, -, -, hps, -⟩, -⟩ := hwf
    refine ⟨if s.temperatureMode = false then nextSpeed s.speedIndex else s.speedIndex,
      exec_inWait_of_decode hr (decodeButton_eq_setSpeed_iff.2 ⟨hps.symm, rfl⟩), fun hm => ?_, fun hm hl => ?_,
      fun hm hl => ?_⟩
    · simp [hm]
    · rw [if_pos hm, nextSpeed_of_last hl]
    · rw [if_pos hm, nextSpeed_of_lt hl]
  · obtain ⟨hw, hd⟩ := exec_enters_action .setSpeed hi h ht (by decide)
    exact ⟨hw, (decodeButton_eq_setSpeed_iff.1 hd).2⟩

/-! ### Temperature mode (R159) -/

/-- Settles O11: the temperature-mode code is tested last, so all three codes before it must differ from it. -/
theorem temperatureModeToggles : Obligations.TemperatureModeToggles := by
  refine ⟨fun s hwf hr => ?_, fun _ => exec_enters_press .toggleTemperatureMode rfl, fun s t i hi h ht => ?_⟩
  · obtain ⟨-, -, -, -, -, ⟨-, -, -, -, -, -, -, hpt, -, hst, hot⟩, -⟩ := hwf
    exact exec_inWait_of_decode hr
      (decodeButton_eq_toggleTemperatureMode_iff.2 ⟨hpt.symm, hst.symm, hot.symm, rfl⟩)
  · obtain ⟨hw, hd⟩ := exec_enters_action .toggleTemperatureMode hi h ht (by decide)
    obtain ⟨-, -, -, hr⟩ := decodeButton_eq_toggleTemperatureMode_iff.1 hd
    exact ⟨hw, hr⟩

/-! ### Oscillation (R160)

In a tick transaction the Input Interpreter's slot comes before the Oscillator's, and no later slot writes `oscillating`;
so the value that the Oscillator tests is the one at the end. -/

/-- Only the Oscillator's slot writes `st_osc` (R32). -/
theorem taskSlot_stOsc_of_ne {t : Task} (h : t ≠ .osc) (s : State) : (taskSlot t s).stOsc = s.stOsc := by
  unfold taskSlot
  split
  · cases t
    case osc => exact absurd rfl h
    case inp => obtain ⟨_, _, _, _, _, _, _, e⟩ := taskStep_inp s; rw [e]; rfl
    case mot => obtain ⟨_, _, _, e⟩ := taskStep_mot s; rw [e]; rfl
    case disp => obtain ⟨_, _, _, e⟩ := taskStep_disp s; rw [e]; rfl
    case out => obtain ⟨_, _, _, e⟩ := taskStep_out s; rw [e]; rfl
  · rfl

/-- Only the Input Interpreter's slot writes `oscillating` (R32). -/
theorem taskSlot_oscillating_of_ne {t : Task} (h : t ≠ .inp) (s : State) :
    (taskSlot t s).oscillating = s.oscillating := by
  unfold taskSlot
  split
  · cases t
    case inp => exact absurd rfl h
    case mot => obtain ⟨_, _, _, e⟩ := taskStep_mot s; rw [e]; rfl
    case osc => obtain ⟨_, _, _, _, e⟩ := taskStep_osc s; rw [e]; rfl
    case disp => obtain ⟨_, _, _, e⟩ := taskStep_disp s; rw [e]; rfl
    case out => obtain ⟨_, _, _, e⟩ := taskStep_out s; rw [e]; rfl
  · rfl

/-- R197 to R200: from every state but `Start`, `Off` is entered exactly while `oscillating` is clear. -/
theorem oscTransition_eq_off_iff {st : OscState} (h : st ≠ .start) (s : State) :
    oscTransition st s = .off ↔ s.oscillating = false := by
  cases st
  case start => exact absurd rfl h
  all_goals
    cases ho : s.oscillating <;> simp only [oscTransition, ho]
    case false => simp
    case true => split_ifs <;> simp_all

theorem exists_oscState_of_mem {n : Nat} (h : n ∈ [0x01, 0x02, 0x03, 0x04]) :
    ∃ st : OscState, st ≠ .start ∧ n = st.code := by
  simp only [List.mem_cons, List.not_mem_nil, or_false] at h
  obtain h | h | h | h := h
  · exact ⟨.off, by decide, h⟩
  · exact ⟨.sweepLeft, by decide, h⟩
  · exact ⟨.dwell, by decide, h⟩
  · exact ⟨.sweepRight, by decide, h⟩

/-- The Oscillator's slot when its task is due: the transition that the register selects. -/
theorem taskSlot_osc_stOsc {s : State} {st : OscState} (hw : s.cfg.WfStateWidth) (hst : s.stOsc = st.code)
    (hdue : s.cfg.period.get .osc ≤ s.elapsed.get .osc) :
    (taskSlot .osc s).stOsc = (oscTransition st s).code := by
  have hread : OscState.ofCode (s.st .osc) = some st := by
    rw [State.st, State.stField, hst, OscState.ofCode_code_mod hw]
  rw [taskSlot_due hdue]
  simp only [taskStep, hread, oscStepFrom_eq]
  rfl

/-- The same-transaction clause of R160. -/
theorem execSchedTick_stOsc_off_iff {s t : State} (hw : s.cfg.WfStateWidth) (ht : exec .schedTick s = .next t)
    (hdue : s.cfg.period.osc ≤ incr s.cfg.elapsedW s.elapsed.osc) (hst : s.stOsc ∈ [0x01, 0x02, 0x03, 0x04]) :
    t.stOsc = 0x01 ↔ t.oscillating = false := by
  obtain ⟨st, hne, hst⟩ := exists_oscState_of_mem hst
  rw [show exec .schedTick s = _ from execSchedTick_eq s] at ht
  cases ht
  generalize hu : taskSlot .mot (taskSlot .inp s.consumeTick.incrementElapsed) = u
  have hcfg : u.cfg = s.cfg := by rw [← hu, taskSlot_cfg, taskSlot_cfg]; rfl
  have hstu : u.stOsc = st.code := by
    rw [← hu, taskSlot_stOsc_of_ne (by decide), taskSlot_stOsc_of_ne (by decide), ← hst]; rfl
  have hel : u.elapsed.get .osc = incr s.cfg.elapsedW s.elapsed.osc := by
    rw [← hu, taskSlot_elapsed, if_neg (by simp), taskSlot_elapsed, if_neg (by simp)]; rfl
  have hosc : (taskSlot .osc u).stOsc = (oscTransition st u).code :=
    taskSlot_osc_stOsc (hcfg ▸ hw) hstu (by rw [hel, hcfg]; exact hdue)
  rw [taskSlot_stOsc_of_ne (by decide), taskSlot_stOsc_of_ne (by decide), hosc,
    taskSlot_oscillating_of_ne (by decide), taskSlot_oscillating_of_ne (by decide),
    taskSlot_oscillating_of_ne (by decide), ← oscTransition_eq_off_iff hne u]
  exact ⟨fun h => OscState.code_inj (h : _ = OscState.off.code), congrArg OscState.code⟩

/-- Settles O12: the decode finds the oscillation code behind the power and the speed code, and the Oscillator's slot comes
after the one that writes `oscillating`. -/
theorem oscillationToggles : Obligations.OscillationToggles := by
  refine ⟨fun s hwf hr => ?_, fun _ => exec_enters_press .toggleOscillation rfl, fun s t i hi h ht => ?_,
    fun s t hwf ht hdue hst => ?_⟩
  · obtain ⟨-, -, -, -, -, ⟨-, -, -, -, -, -, hpo, -, hso, -⟩, -⟩ := hwf
    exact exec_inWait_of_decode hr (decodeButton_eq_toggleOscillation_iff.2 ⟨hpo.symm, hso.symm, rfl⟩)
  · obtain ⟨hw, hd⟩ := exec_enters_action .toggleOscillation hi h ht (by decide)
    obtain ⟨-, -, hr⟩ := decodeButton_eq_toggleOscillation_iff.1 hd
    exact ⟨hw, hr⟩
  · obtain ⟨-, -, -, -, -, -, -, -, hw⟩ := hwf
    exact execSchedTick_stOsc_off_iff hw ht hdue hst

/-! ### Release (R162) -/

/-- Settles O13: every step here enters `Press` or `Wait`, which have no action. -/
theorem pressWaitsForRelease : Obligations.PressWaitsForRelease := by
  refine ⟨fun s i hi => ?_, fun s hr => ?_, fun s hr => ?_⟩
  · simp only [List.mem_cons, List.not_mem_nil, or_false] at hi
    obtain rfl | rfl | rfl | rfl | rfl := hi
    · exact exec_enters_press .off rfl
    · exact exec_enters_press .on rfl
    · exact exec_enters_press .setSpeed rfl
    · exact exec_enters_press .toggleTemperatureMode rfl
    · exact exec_enters_press .toggleOscillation rfl
  · rw [← hr]
    exact exec_enters_actionless .press (if_pos hr) (.inl rfl)
  · exact exec_enters_press .press (if_neg hr)

end Sys2Proof.Machine

section
/-! PROOF. The encodings (R100 to R118): every instruction is an input code, the step of one state of one FSM, the tick
transaction or an output word; decoding and encoding are inverse on each of these groups. -/

namespace Sys2Proof

/-! ### The clauses of a well-formed configuration (R9) that the proofs below use -/

section WellFormed

variable {c : Config}

theorem Config.WellFormed.periods (h : c.WellFormed) (t : Task) :
    1 ≤ c.period.get t ∧ c.period.get t ≤ 2 ^ c.elapsedW - 1 := by
  obtain ⟨⟨hinp, hmot, hosc, hdisp, hout⟩, -⟩ := h
  cases t <;> assumption

theorem Config.WellFormed.dutyTable (h : c.WellFormed) : c.WfDutyTable := by
  obtain ⟨-, h, -⟩ := h
  exact h

theorem Config.WellFormed.threshold (h : c.WellFormed) : c.WfThreshold := by
  obtain ⟨-, -, h, -⟩ := h
  exact h

theorem Config.WellFormed.limits (h : c.WellFormed) : c.WfLimits := by
  obtain ⟨-, -, -, -, h, -⟩ := h
  exact h

theorem Config.WellFormed.codes (h : c.WellFormed) : c.WfCodes := by
  obtain ⟨-, -, -, -, -, h, -⟩ := h
  exact h

theorem Config.WellFormed.direction (h : c.WellFormed) : c.WfDirection := by
  obtain ⟨-, -, -, -, -, -, h, -⟩ := h
  exact h

theorem Config.WellFormed.pulsePeriod (h : c.WellFormed) : c.WfPulsePeriod := by
  obtain ⟨-, -, -, -, -, -, -, h, -⟩ := h
  exact h

theorem Config.WellFormed.stateWidth (h : c.WellFormed) : c.WfStateWidth := by
  obtain ⟨-, -, -, -, -, -, -, -, h⟩ := h
  exact h

end WellFormed

/-! ### The 28 rows in eight groups (R118) -/

/-- The groups of rows: an input code, the step of one state of one FSM, the tick transaction, an output word. -/
inductive Instr.Group : Instr → Prop where
  | inputCode (k : InputCode) : Group k.instr
  | inState (st : InState) : Group st.instr
  | motState (st : MotState) : Group st.instr
  | oscState (st : OscState) : Group st.instr
  | dispState (st : DispState) : Group st.instr
  | outState (st : OutState) : Group st.instr
  | schedTick : Group .schedTick
  | outword (dir : Nat) (m s o p : Bool) : Group (.outword dir m s o p)

theorem Instr.group (i : Instr) : i.Group := by
  cases i with
  | idle => exact .inputCode .idle
  | power => exact .inputCode .power
  | speed => exact .inputCode .speed
  | osc => exact .inputCode .osc
  | temp => exact .inputCode .temp
  | inStart => exact .inState .start
  | inWait => exact .inState .wait
  | inOff => exact .inState .off
  | inOn => exact .inState .on
  | inSetSpeed => exact .inState .setSpeed
  | inToggleTemperatureMode => exact .inState .toggleTemperatureMode
  | inToggleOscillation => exact .inState .toggleOscillation
  | inPress => exact .inState .press
  | motStart => exact .motState .start
  | motOff => exact .motState .off
  | motOn => exact .motState .on
  | oscStart => exact .oscState .start
  | oscOff => exact .oscState .off
  | oscSweepLeft => exact .oscState .sweepLeft
  | oscDwell => exact .oscState .dwell
  | oscSweepRight => exact .oscState .sweepRight
  | dispStart => exact .dispState .start
  | dispDwell => exact .dispState .dwell
  | dispOutput => exact .dispState .output
  | outStart => exact .outState .start
  | outOutput => exact .outState .output
  | schedTick => exact .schedTick
  | outword dir m s o p => exact .outword dir m s o p

/-! ### The encoding of each group -/

theorem encode_inputCode (c : Config) (k : InputCode) : encode c k.instr = (.rawin4, (k.raw c).toNat) := by
  cases k <;> rfl

theorem encode_inState (c : Config) (st : InState) : encode c st.instr = (.state8 .inp, st.code) := by
  cases st <;> rfl

theorem encode_motState (c : Config) (st : MotState) : encode c st.instr = (.state8 .mot, st.code) := by
  cases st <;> rfl

theorem encode_oscState (c : Config) (st : OscState) : encode c st.instr = (.state8 .osc, st.code) := by
  cases st <;> rfl

theorem encode_dispState (c : Config) (st : DispState) : encode c st.instr = (.state8 .disp, st.code) := by
  cases st <;> rfl

theorem encode_outState (c : Config) (st : OutState) : encode c st.instr = (.state8 .out, st.code) := by
  cases st <;> rfl

theorem OscState.instr_inj {a b : OscState} (h : a.instr = b.instr) : a = b := by
  have hcode := congrArg (encode Config.decided) h
  rw [encode_oscState, encode_oscState] at hcode
  exact OscState.code_inj (congrArg Prod.snd hcode)

theorem InputCode.instr_wellFormed (k : InputCode) : k.instr.wellFormed = true := by
  cases k <;> rfl

/-! ### Decoding -/

theorem decode_rawin4 {c : Config} {w : Nat} {k : InputCode} (h : InputCode.ofRaw c (BitVec.ofNat 4 w) = some k) :
    decode c .rawin4 w = .instr k.instr := by
  simp only [decode, decodeRawin4, h]

theorem decode_state8 {c : Config} {t : Task} {w : Nat} {i : Instr} (h : stateInstr t (w % 2 ^ c.stateW) = some i) :
    decode c (.state8 t) w = .instr i := by
  simp only [decode, decodeState8, h]

theorem decode_out8_outWord (c : Config) (d : BitVec 2) (m s o p : Bool) :
    decode c .out8 (outWord d m s o p).toNat = .instr (.outword d.toNat m s o p) := by
  obtain ⟨h0, h1, h2, h3, hd, hz⟩ := outWord_bits d m s o p
  simp only [decode, BitVec.ofNat_toNat, BitVec.setWidth_eq, decodeOut8, h0, h1, h2, h3, hd, hz, if_true]

/-- Settles O1: one case per group; a code is read back because it fits its register, an input code because the five differ,
an output word because its bits are its fields. -/
theorem decodeOfEncodeIsInstruction : Obligations.DecodeOfEncodeIsInstruction := by
  intro c i hwf hi
  have hcodes := hwf.codes
  have hw := hwf.stateWidth
  cases i.group with
  | inputCode k =>
    rw [encode_inputCode]
    exact decode_rawin4 (by simpa using InputCode.ofRaw_raw hcodes k)
  | inState st =>
    rw [encode_inState]
    exact decode_state8 (by simp only [stateInstr, InState.ofCode_code_mod hw, Option.map_some])
  | motState st =>
    rw [encode_motState]
    exact decode_state8 (by simp only [stateInstr, MotState.ofCode_code_mod hw, Option.map_some])
  | oscState st =>
    rw [encode_oscState]
    exact decode_state8 (by simp only [stateInstr, OscState.ofCode_code_mod hw, Option.map_some])
  | dispState st =>
    rw [encode_dispState]
    exact decode_state8 (by simp only [stateInstr, DispState.ofCode_code_mod hw, Option.map_some])
  | outState st =>
    rw [encode_outState]
    exact decode_state8 (by simp only [stateInstr, OutState.ofCode_code_mod hw, Option.map_some])
  | schedTick => rfl
  | outword dir m sv o p =>
    have hd : dir ≤ 3 := of_decide_eq_true hi
    have hdir : (BitVec.ofNat 2 dir).toNat = dir := Nat.mod_eq_of_lt (by omega)
    exact (decode_out8_outWord c (BitVec.ofNat 2 dir) m sv o p).trans (by rw [hdir])

/-! ### What decodes is an encoding -/

/-- An output word with zero reserved bits is composed of the fields read from it (R109). -/
theorem outWord_fields {b : Byte} (h : b.extractLsb' 6 2 = 0#2) :
    outWord (b.extractLsb' 4 2) (b.getLsbD 3) (b.getLsbD 2) (b.getLsbD 1) (b.getLsbD 0) = b := by
  revert b; decide

/-- Settles O2: per format, what the decoder's test found is what the encoder writes. -/
theorem encodeOfDecodeIsFormatBits : Obligations.EncodeOfDecodeIsFormatBits := by
  intro c f w i h
  cases f with
  | rawin4 =>
    simp only [decode, decodeRawin4] at h
    split at h
    case h_1 k hk =>
      cases h
      rw [encode_inputCode, InputCode.raw_of_ofRaw hk]
      exact ⟨rfl, rfl, k.instr_wellFormed⟩
    case h_2 => cases h
  | state8 t =>
    simp only [decode, decodeState8] at h
    split at h
    case h_1 j hj =>
      cases h
      obtain ⟨henc, hwf⟩ := stateInstr_some hj c
      rw [henc]
      exact ⟨rfl, rfl, hwf⟩
    case h_2 => cases h
  | event =>
    simp only [decode, decodeEvent] at h
    split at h
    case isTrue hodd => cases h; exact ⟨rfl, hodd.symm, rfl⟩
    case isFalse => cases h
  | out8 =>
    simp only [decode, decodeOut8] at h
    split at h
    case isTrue hz =>
      cases h
      refine ⟨rfl, ?_, decide_eq_true (Nat.le_of_lt_succ (BitVec.isLt _))⟩
      simp only [encode, BitVec.ofNat_toNat, BitVec.setWidth_eq, outWord_fields hz]
      rfl
    case isFalse => cases h

/-! ### Tables -/

/-- Settles O3: the eight words are closed terms. -/
theorem tableWordsDecode : Obligations.TableWordsDecode := by
  unfold Obligations.TableWordsDecode
  decide

theorem InState.ofCode_eq_none_iff {n : Nat} : InState.ofCode n = none ↔ 8 ≤ n := by
  refine ⟨fun h => Nat.le_of_not_lt fun hlt => ?_, fun h => ?_⟩
  · interval_cases n <;> cases h
  · obtain ⟨m, rfl⟩ := Nat.exists_eq_add_of_le' h
    rfl

theorem MotState.ofCode_eq_none_iff {n : Nat} : MotState.ofCode n = none ↔ 3 ≤ n := by
  refine ⟨fun h => Nat.le_of_not_lt fun hlt => ?_, fun h => ?_⟩
  · interval_cases n <;> cases h
  · obtain ⟨m, rfl⟩ := Nat.exists_eq_add_of_le' h
    rfl

theorem OscState.ofCode_eq_none_iff {n : Nat} : OscState.ofCode n = none ↔ 5 ≤ n := by
  refine ⟨fun h => Nat.le_of_not_lt fun hlt => ?_, fun h => ?_⟩
  · interval_cases n <;> cases h
  · obtain ⟨m, rfl⟩ := Nat.exists_eq_add_of_le' h
    rfl

theorem DispState.ofCode_eq_none_iff {n : Nat} : DispState.ofCode n = none ↔ 3 ≤ n := by
  refine ⟨fun h => Nat.le_of_not_lt fun hlt => ?_, fun h => ?_⟩
  · interval_cases n <;> cases h
  · obtain ⟨m, rfl⟩ := Nat.exists_eq_add_of_le' h
    rfl

theorem OutState.ofCode_eq_none_iff {n : Nat} : OutState.ofCode n = none ↔ 2 ≤ n := by
  refine ⟨fun h => Nat.le_of_not_lt fun hlt => ?_, fun h => ?_⟩
  · interval_cases n <;> cases h
  · obtain ⟨m, rfl⟩ := Nat.exists_eq_add_of_le' h
    rfl

theorem decode_state8_rejected_iff {c : Config} {t : Task} {w : Nat} (h : w < 2 ^ c.stateW) :
    decode c (.state8 t) w = .rejected (.unrecognisedState t w) ↔ stateInstr t w = none := by
  simp only [decode, decodeState8, Nat.mod_eq_of_lt h]
  cases stateInstr t w <;> simp

/-- Settles O4: a code that fits is rejected exactly when its FSM's table has no entry for it. -/
theorem unrecognisedCodesAreRejected : Obligations.UnrecognisedCodesAreRejected := by
  intro c t w h
  rw [decode_state8_rejected_iff h]
  cases t <;> simp only [stateInstr, Option.map_eq_none_iff]
  case inp => exact InState.ofCode_eq_none_iff
  case mot => exact MotState.ofCode_eq_none_iff
  case osc => exact OscState.ofCode_eq_none_iff
  case disp => exact DispState.ofCode_eq_none_iff
  case out => exact OutState.ofCode_eq_none_iff

/-- Settles O5: a check of the sixteen values. -/
theorem multiButtonValuesMatchNoCode : Obligations.MultiButtonValuesMatchNoCode := by
  unfold Obligations.MultiButtonValuesMatchNoCode
  decide

end Sys2Proof
end

section
/-! PROOF. The Input Interpreter (R152 to R164): the step from `Wait` for every snapshot, the input codes as steps that sample
them, and how few mode registers one step changes. -/

namespace Sys2Proof.Machine

/-! ### The step from `Wait` (R155) -/

theorem decodeButton_eq_wait {c : Config} {r : Nibble} (pw : Bool) (hp : r ≠ c.codePower) (hs : r ≠ c.codeSpeed)
    (ho : r ≠ c.codeOsc) (ht : r ≠ c.codeTemp) : decodeButton c r pw = .wait := by
  rw [decodeButton_eq, if_neg hp, if_neg hs, if_neg ho, if_neg ht]

/-- Settles O7: the chain of comparisons is followed, and each outcome is one destination of the decode. -/
theorem waitDecodesInPriorityOrder : Obligations.WaitDecodesInPriorityOrder := by
  intro s r
  have hr : s.samplePin = r := rfl
  rw [← nextSpeed_eq]
  by_cases hp : r = s.cfg.codePower
  · rw [if_pos hp]
    split
    case isTrue hoff => exact exec_inWait_of_decode hr (decodeButton_eq_on_iff.2 ⟨hp, hoff⟩)
    case isFalse hon => exact exec_inWait_of_decode hr (decodeButton_eq_off_iff.2 ⟨hp, by simpa using hon⟩)
  rw [if_neg hp]
  by_cases hs : r = s.cfg.codeSpeed
  · rw [if_pos hs]
    exact exec_inWait_of_decode hr (decodeButton_eq_setSpeed_iff.2 ⟨hp, hs⟩)
  rw [if_neg hs]
  by_cases ho : r = s.cfg.codeOsc
  · rw [if_pos ho]
    exact exec_inWait_of_decode hr (decodeButton_eq_toggleOscillation_iff.2 ⟨hp, hs, ho⟩)
  rw [if_neg ho]
  by_cases ht : r = s.cfg.codeTemp
  · rw [if_pos ht]
    exact exec_inWait_of_decode hr (decodeButton_eq_toggleTemperatureMode_iff.2 ⟨hp, hs, ho, ht⟩)
  rw [if_neg ht]
  exact exec_inWait_of_decode hr (decodeButton_eq_wait _ hp hs ho ht)

/-! ### The input codes (log entry 3) -/

/-- The five input codes sample their own value. -/
theorem exec_inputCode_instr (k : InputCode) (s : State) :
    exec k.instr s = .next (inStepSampling (k.raw s.cfg) s) := by
  cases k <;> rfl

/-- The step that samples what stands on the port is the step of task 0. -/
theorem inStepSampling_samplePin (s : State) : inStepSampling s.samplePin s = taskStep .inp s := rfl

theorem exec_inputCode_of_sample {k : InputCode} {s : State} (h : (~~~s.pinIn).setWidth 4 = k.raw s.cfg) :
    exec k.instr s = runTask .inp s := by
  rw [exec_inputCode_instr, ← h, runTask_eq]
  exact congrArg _ (inStepSampling_samplePin s)

/-- Settles O16: each clause is `exec_inputCode_of_sample` at its code. -/
theorem inputCodeIsTheStepThatSamplesIt : Obligations.InputCodeIsTheStepThatSamplesIt := fun _ =>
  ⟨exec_inputCode_of_sample (k := .idle), exec_inputCode_of_sample (k := .power),
    exec_inputCode_of_sample (k := .speed), exec_inputCode_of_sample (k := .osc),
    exec_inputCode_of_sample (k := .temp)⟩

/-- In a recognised state, an input code is the step from that state with its value as the snapshot. -/
theorem exec_inputCode_of_stIn {k : InputCode} {st : InState} {s : State} (hw : s.cfg.WfStateWidth)
    (hst : s.stIn = st.code) : exec k.instr s = .next (inStepFrom st (k.raw s.cfg) s) := by
  have hread : InState.ofCode (s.st .inp) = some st := by
    rw [State.st, State.stField, hst, InState.ofCode_code_mod hw]
  simp only [exec_inputCode_instr, inStepSampling, hread]

/-- The codes being pairwise different, each input code decodes to its own destination (R155). -/
theorem decodeButton_raw {c : Config} (h : c.WfCodes) (k : InputCode) (pw : Bool) :
    decodeButton c (k.raw c) pw =
      match k with
      | .idle => .wait
      | .power => powerDestination pw
      | .speed => .setSpeed
      | .osc => .toggleOscillation
      | .temp => .toggleTemperatureMode := by
  rw [decodeButton, InputCode.ofRaw_raw h]
  cases k <;> rfl

/-- What an input code does in `Wait`: the action of the state it decodes to. -/
theorem exec_inputCode_of_wait {k : InputCode} {e : InState} {s : State} (hw : s.cfg.WfStateWidth)
    (hst : s.stIn = 0x01) (he : decodeButton s.cfg (k.raw s.cfg) s.power = e) :
    exec k.instr s = .next (inAction e ((s.snapshot (k.raw s.cfg)).setSt .inp e.code)) := by
  subst he
  exact exec_inputCode_of_stIn (st := .wait) hw hst

/-- Settles O14: in `Wait` each code decodes to the state of its row. -/
theorem inputCodesActFromWait : Obligations.InputCodesActFromWait := by
  intro s hwf hst
  have key (k : InputCode) := exec_inputCode_of_wait hwf.stateWidth hst (decodeButton_raw hwf.codes k s.power)
  refine ⟨(key .idle).trans ?_, fun hp => (key .power).trans ?_, fun hp => (key .power).trans ?_,
    (key .speed).trans ?_, key .osc, key .temp⟩
  · exact congrArg (fun n => Host.Outcome.next { s with rawInput := s.cfg.codeIdle, stIn := n }) hst.symm
  · rw [hp]; rfl
  · rw [hp]; rfl
  · rw [← nextSpeed_eq]; rfl

/-- In `Press` an input code writes the snapshot and the code of the state entered, which has no action. -/
theorem exec_inputCode_of_press {k : InputCode} {s : State} (hw : s.cfg.WfStateWidth) (hst : s.stIn = 0x07) :
    exec k.instr s = .next
      { s with rawInput := k.raw s.cfg, stIn := if k.raw s.cfg = s.cfg.codeIdle then 0x01 else 0x07 } := by
  rw [exec_inputCode_of_stIn (st := .press) hw hst, inStepFrom]
  by_cases h : k.raw s.cfg = s.cfg.codeIdle
  · rw [if_pos h, show inTransition .press (s.snapshot (k.raw s.cfg)) = .wait from if_pos h]
    rfl
  · rw [if_neg h, show inTransition .press (s.snapshot (k.raw s.cfg)) = .press from if_neg h]
    rfl

/-- A button code leaves `Press` where it is, since it is not the idle code (R9 (f), R162). -/
theorem exec_inputCode_stays_in_press {k : InputCode} {s : State} (hw : s.cfg.WfStateWidth) (hst : s.stIn = 0x07)
    (hk : s.cfg.codeIdle ≠ k.raw s.cfg) : exec k.instr s = .next { s with rawInput := k.raw s.cfg } := by
  rw [exec_inputCode_of_press hw hst, if_neg hk.symm]
  exact congrArg (fun n => Host.Outcome.next { s with rawInput := k.raw s.cfg, stIn := n }) hst.symm

/-- Settles O15: the idle code is the one that `Press` compares with, and it differs from the four button codes. -/
theorem inputCodesInPress : Obligations.InputCodesInPress := by
  intro s hwf hst
  have hw := hwf.stateWidth
  obtain ⟨-, hp, hs, ho, ht, -⟩ := hwf.codes
  refine ⟨?_, exec_inputCode_stays_in_press (k := .power) hw hst hp,
    exec_inputCode_stays_in_press (k := .speed) hw hst hs, exec_inputCode_stays_in_press (k := .osc) hw hst ho,
    exec_inputCode_stays_in_press (k := .temp) hw hst ht⟩
  have hidle : InputCode.idle.raw s.cfg = s.cfg.codeIdle := rfl
  exact (exec_inputCode_of_press (k := .idle) hw hst).trans (by rw [if_pos hidle, hidle])

/-! ### The four mode registers (R161) -/

/-- The mode register number `m` (`power`, `oscillating`, `temperatureMode`, `speedIndex`) is as before. -/
def ModeUnchanged (s t : State) (m : Fin 4) : Prop :=
  match m with
  | 0 => t.power = s.power
  | 1 => t.oscillating = s.oscillating
  | 2 => t.temperatureMode = s.temperatureMode
  | 3 => t.speedIndex = s.speedIndex

/-- The mode register that the action of a state writes. -/
def writtenMode : InState → Option (Fin 4)
  | .off => some 0
  | .on => some 0
  | .toggleOscillation => some 1
  | .toggleTemperatureMode => some 2
  | .setSpeed => some 3
  | .start => none
  | .wait => none
  | .press => none

/-- Only the register of the entered state's action can change. -/
theorem inStepFrom_modeUnchanged (st : InState) (r : Nibble) (s : State) {m : Fin 4}
    (h : writtenMode (inTransition st (s.snapshot r)) ≠ some m) : ModeUnchanged s (inStepFrom st r s) m := by
  rw [inStepFrom_eq]
  generalize inTransition st (s.snapshot r) = e at h
  match m with
  | 0 | 1 | 2 | 3 => cases e <;> simp_all [ModeUnchanged, writtenMode]

/-- A step from another state than `Wait` enters `Wait` or `Press`, which write no mode register. -/
theorem writtenMode_inTransition {st : InState} (h : st ≠ .wait) (s : State) :
    writtenMode (inTransition st s) = none := by
  by_cases he : inTransition st s ≠ .wait ∧ inTransition st s ≠ .press
  · exact absurd (inTransition_action rfl he).1 h
  · obtain he | he : inTransition st s = .wait ∨ inTransition st s = .press := by tauto
    all_goals rw [he]; rfl

/-- Settles O17: the one register that may change is the one of the entered state's action. -/
theorem atMostOneModeRegisterChanges : Obligations.AtMostOneModeRegisterChanges := by
  intro s t i hi h same
  obtain ⟨st, rfl⟩ := exists_instr_of_mem_taskSteps_inp hi
  rw [exec_inState_instr] at h
  cases h
  have key (m : Fin 4) : writtenMode (inTransition st (s.snapshot s.samplePin)) ≠ some m → same m :=
    inStepFrom_modeUnchanged st s.samplePin s
  refine ⟨?_, fun hne m => key m ?_⟩
  · cases hm : writtenMode (inTransition st (s.snapshot s.samplePin)) with
    | none => exact ⟨0, fun m _ => key m (by rw [hm]; exact nofun)⟩
    | some m => exact ⟨m, fun m' hne => key m' (by rw [hm]; exact fun h => hne (Option.some.inj h).symm)⟩
  · have hw : st ≠ .wait := by rintro rfl; exact hne rfl
    rw [writtenMode_inTransition hw]
    exact nofun

end Sys2Proof.Machine
end

section
/-! PROOF. The Motor Duty FSM (R180 to R187): its steps with power off and on, the range of the duty counter, and the waveform
of a whole PWM cycle. -/

namespace Sys2Proof.Machine

/-! ### The steps (R181 to R184) -/

theorem exec_motState_instr (st : MotState) (s : State) : exec st.instr s = .next (motStepFrom st s) := by
  cases st <;> rfl

/-- A step that enters `Off` writes the register and turns the enable off. -/
theorem motStepFrom_enters_off {st : MotState} {s : State} (h : motTransition st s = .off) :
    motStepFrom st s = { s with stMot := 0x01, motorEnabled := false } := by
  rw [motStepFrom_eq, h]
  rfl

/-- A step that enters `On` increments the duty counter and takes one of three branches on it. -/
theorem motStepFrom_enters_on {st : MotState} {s : State} (h : motTransition st s = .on) :
    motStepFrom st s =
      { s with
        stMot := 0x02
        dutyCounter := dutyCounterAfter (incr s.cfg.dutyCtrW s.dutyCounter) s.cfg.dutyLowThreshold s.selectedDuty
        motorEnabled :=
          motorEnabledAfter (incr s.cfg.dutyCtrW s.dutyCounter) s.cfg.dutyLowThreshold s.selectedDuty
            s.motorEnabled } := by
  rw [motStepFrom_eq, h]
  rfl

theorem motTransition_power_off (st : MotState) {s : State} (h : s.power = false) : motTransition st s = .off := by
  cases st <;> simp [motTransition, h]

theorem motTransition_power_on {st : MotState} (hst : st ≠ .start) {s : State} (h : s.power = true) :
    motTransition st s = .on := by
  cases st
  case start => exact absurd rfl hst
  case off => exact if_pos h
  case on => exact if_neg (by simp [h])

/-- The three branches of R184, on the incremented counter. -/
theorem dutyAfter_low {d low duty : Nat} (b : Bool) (h : d < low) :
    dutyCounterAfter d low duty = d ∧ motorEnabledAfter d low duty b = false := by
  simp [dutyCounterAfter, motorEnabledAfter, h]

theorem dutyAfter_high {d low duty : Nat} (b : Bool) (hl : low ≤ d) (hd : d ≤ duty) :
    dutyCounterAfter d low duty = d ∧ motorEnabledAfter d low duty b = true := by
  simp [dutyCounterAfter, motorEnabledAfter, Nat.not_lt.2 hl, hd]

theorem dutyAfter_wrap {d low duty : Nat} (b : Bool) (hl : low ≤ d) (hd : duty < d) :
    dutyCounterAfter d low duty = 0 ∧ motorEnabledAfter d low duty b = b := by
  simp [dutyCounterAfter, motorEnabledAfter, Nat.not_lt.2 hl, Nat.not_le.2 hd]

/-- The four outcomes of a step from `Off` or `On`; the two states differ in nothing else. -/
theorem exec_motState_branches {st : MotState} (hst : st ≠ .start) (s : State) :
    let d := (s.dutyCounter + 1) % 2 ^ s.cfg.dutyCtrW
    (s.power = false → exec st.instr s = .next { s with stMot := 0x01, motorEnabled := false }) ∧
    (s.power = true → d < s.cfg.dutyLowThreshold →
      exec st.instr s = .next { s with stMot := 0x02, dutyCounter := d, motorEnabled := false }) ∧
    (s.power = true → s.cfg.dutyLowThreshold ≤ d → d ≤ s.cfg.dutyTable.get s.speedIndex →
      exec st.instr s = .next { s with stMot := 0x02, dutyCounter := d, motorEnabled := true }) ∧
    (s.power = true → s.cfg.dutyLowThreshold ≤ d → s.cfg.dutyTable.get s.speedIndex < d →
      exec st.instr s = .next { s with stMot := 0x02, dutyCounter := 0 }) := by
  intro d
  have hd : incr s.cfg.dutyCtrW s.dutyCounter = d := rfl
  have hD : s.selectedDuty = s.cfg.dutyTable.get s.speedIndex := rfl
  rw [exec_motState_instr]
  refine ⟨fun hp => ?_, fun hp hlow => ?_, fun hp hl hle => ?_, fun hp hl hlt => ?_⟩
  · rw [motStepFrom_enters_off (motTransition_power_off st hp)]
  · obtain ⟨hc, he⟩ := dutyAfter_low (duty := s.selectedDuty) s.motorEnabled hlow
    rw [motStepFrom_enters_on (motTransition_power_on hst hp), hd, hc, he]
  · obtain ⟨hc, he⟩ := dutyAfter_high s.motorEnabled hl hle
    rw [motStepFrom_enters_on (motTransition_power_on hst hp), hd, hD, hc, he]
  · obtain ⟨hc, he⟩ := dutyAfter_wrap s.motorEnabled hl hlt
    rw [motStepFrom_enters_on (motTransition_power_on hst hp), hd, hD, hc, he]

/-- Settles O18. -/
theorem motorOffStep : Obligations.MotorOffStep := exec_motState_branches (st := .off) (by decide)

/-- Settles O19. -/
theorem motorOnStep : Obligations.MotorOnStep := exec_motState_branches (st := .on) (by decide)

/-! ### The range of the duty counter (R187) -/

/-- The entries of a well-formed table lie between its first and its last. -/
theorem DutyTable_get_bounds {c : Config} (h : c.WfDutyTable) (i : Fin NSPEED) :
    c.dutyTable.d0 ≤ c.dutyTable.get i ∧ c.dutyTable.get i ≤ c.dutyTable.d3 := by
  obtain ⟨h01, h12, h23, -⟩ := h
  match i with
  | 0 => exact ⟨le_refl c.dutyTable.d0, by change c.dutyTable.d0 ≤ _; omega⟩
  | 1 => change _ ≤ c.dutyTable.d1 ∧ c.dutyTable.d1 ≤ _; omega
  | 2 => change _ ≤ c.dutyTable.d2 ∧ c.dutyTable.d2 ≤ _; omega
  | 3 => exact ⟨by change _ ≤ c.dutyTable.d3; omega, le_refl c.dutyTable.d3⟩

theorem dutyCounterAfter_le {d low duty bound : Nat} (hlow : low ≤ bound) (hduty : duty ≤ bound) :
    dutyCounterAfter d low duty ≤ bound := by
  unfold dutyCounterAfter
  split_ifs <;> omega

/-- R187 (d): no step from a recognised state leaves the range of the table. -/
theorem motStepFrom_dutyCounter_le (st : MotState) {s : State} (hwf : s.cfg.WellFormed)
    (h : s.dutyCounter ≤ s.cfg.dutyTable.d3) : (motStepFrom st s).dutyCounter ≤ s.cfg.dutyTable.d3 := by
  obtain ⟨-, hlow⟩ := hwf.threshold
  obtain ⟨hfirst, hlast⟩ := DutyTable_get_bounds hwf.dutyTable s.speedIndex
  rw [motStepFrom_eq]
  cases motTransition st s with
  | start => exact h
  | off => exact h
  | on => exact dutyCounterAfter_le (by omega) hlast

theorem taskStep_mot_dutyCounter_le {s : State} (hwf : s.cfg.WellFormed) (h : s.dutyCounter ≤ s.cfg.dutyTable.d3) :
    (taskStep .mot s).dutyCounter ≤ s.cfg.dutyTable.d3 := by
  simp only [taskStep]
  cases MotState.ofCode (s.st .mot) with
  | none => exact h
  | some st => exact motStepFrom_dutyCounter_le st hwf h

/-- Settles O20. -/
theorem dutyCounterStaysWithinTable : Obligations.DutyCounterStaysWithinTable := by
  intro s t hwf h hrun
  rw [runTask_eq] at hrun
  cases hrun
  exact taskStep_mot_dutyCounter_le hwf h

/-! ### The waveform (R186) -/

theorem taskStep_mot_of_stMot {st : MotState} {s : State} (hw : s.cfg.WfStateWidth) (hst : s.stMot = st.code) :
    taskStep .mot s = motStepFrom st s := by
  have hread : MotState.ofCode (s.st .mot) = some st := by
    rw [State.st, State.stField, hst, MotState.ofCode_code_mod hw]
  simp only [taskStep, hread]

/-- One step of a motor that stays powered, from `Off` or `On`. -/
theorem runTask_mot_powered {s : State} (hw : s.cfg.WfStateWidth) (hp : s.power = true)
    (hst : s.stMot = 0x01 ∨ s.stMot = 0x02) :
    runTask .mot s = .next
      { s with
        stMot := 0x02
        dutyCounter := dutyCounterAfter (incr s.cfg.dutyCtrW s.dutyCounter) s.cfg.dutyLowThreshold s.selectedDuty
        motorEnabled :=
          motorEnabledAfter (incr s.cfg.dutyCtrW s.dutyCounter) s.cfg.dutyLowThreshold s.selectedDuty
            s.motorEnabled } := by
  rw [runTask_eq]
  obtain hst | hst := hst
  · rw [taskStep_mot_of_stMot (st := .off) hw hst, motStepFrom_enters_on (motTransition_power_on (by decide) hp)]
  · rw [taskStep_mot_of_stMot (st := .on) hw hst, motStepFrom_enters_on (motTransition_power_on (by decide) hp)]

/-- The motor after `k` steps of a cycle: the counter at `k`, the enable high from the threshold on. -/
def motorAfter (s : State) (k : Nat) : State :=
  { s with stMot := 0x02, dutyCounter := k, motorEnabled := decide (s.cfg.dutyLowThreshold ≤ k) }

/-- Up to the selected duty value, a step takes the counter from `k` to `k + 1` and sets the enable by the threshold. -/
theorem runTask_mot_counts {s : State} {k : Nat} (hwf : s.cfg.WellFormed) (hp : s.power = true)
    (hst : s.stMot = 0x01 ∨ s.stMot = 0x02) (hk : s.dutyCounter = k) (hle : k + 1 ≤ s.selectedDuty) :
    runTask .mot s = .next (motorAfter s (k + 1)) := by
  have hlast : s.selectedDuty ≤ s.cfg.dutyTable.d3 := (DutyTable_get_bounds hwf.dutyTable s.speedIndex).2
  obtain ⟨-, -, -, hfit⟩ := hwf.dutyTable
  have hd : incr s.cfg.dutyCtrW s.dutyCounter = k + 1 := by rw [hk]; exact incr_of_lt (by omega)
  rw [runTask_mot_powered hwf.stateWidth hp hst, hd, motorAfter]
  by_cases hlow : k + 1 < s.cfg.dutyLowThreshold
  · obtain ⟨hc, he⟩ := dutyAfter_low (duty := s.selectedDuty) s.motorEnabled hlow
    rw [hc, he, decide_eq_false (Nat.not_le.2 hlow)]
  · obtain ⟨hc, he⟩ := dutyAfter_high s.motorEnabled (Nat.not_lt.1 hlow) hle
    rw [hc, he, decide_eq_true (Nat.not_lt.1 hlow)]

/-- The first `k` steps of a cycle, by induction on `k`. -/
theorem iterate_mot {s : State} (hwf : s.cfg.WellFormed) (hp : s.power = true)
    (hst : s.stMot = 0x01 ∨ s.stMot = 0x02) (h0 : s.dutyCounter = 0) {k : Nat} (hk : 1 ≤ k) :
    k ≤ s.selectedDuty → iterate (runTask .mot) k s = .next (motorAfter s k) := by
  induction k, hk using Nat.le_induction with
  | base =>
    intro hle
    rw [iterate_succ 0 (t := s) rfl]
    exact runTask_mot_counts hwf hp hst h0 hle
  | succ k _ ih =>
    intro hle
    rw [iterate_succ k (ih (by omega))]
    exact runTask_mot_counts (s := motorAfter s k) hwf hp (.inr rfl) rfl hle

/-- The step after the duty value is the wrap step: the counter is reset and the enable kept (D16). -/
theorem runTask_mot_wraps {s : State} (hwf : s.cfg.WellFormed) (hp : s.power = true)
    (hst : s.stMot = 0x01 ∨ s.stMot = 0x02) (hk : s.dutyCounter = s.selectedDuty) :
    runTask .mot s = .next { s with stMot := 0x02, dutyCounter := 0 } := by
  obtain ⟨-, hlow⟩ := hwf.threshold
  obtain ⟨hfirst, hlast⟩ : _ ≤ s.selectedDuty ∧ s.selectedDuty ≤ _ :=
    DutyTable_get_bounds hwf.dutyTable s.speedIndex
  obtain ⟨-, -, -, hfit⟩ := hwf.dutyTable
  have hd : incr s.cfg.dutyCtrW s.dutyCounter = s.selectedDuty + 1 := by rw [hk]; exact incr_of_lt (by omega)
  obtain ⟨hc, he⟩ := dutyAfter_wrap (low := s.cfg.dutyLowThreshold) s.motorEnabled (by omega)
    (Nat.lt_succ_self s.selectedDuty)
  rw [runTask_mot_powered hwf.stateWidth hp hst, hd, hc, he]

/-- Settles O21: `iterate_mot` gives the steps up to the duty value, `runTask_mot_wraps` the one after it. -/
theorem motorWaveform : Obligations.MotorWaveform := by
  intro s hwf hp hst h0
  refine ⟨fun k hk hle => ⟨_, iterate_mot hwf hp hst h0 hk hle, rfl, rfl, rfl⟩, ?_⟩
  have hpos : s.cfg.dutyLowThreshold ≤ s.selectedDuty ∧ 1 ≤ s.selectedDuty := by
    obtain ⟨hone, hlow⟩ := hwf.threshold
    have hfirst : _ ≤ s.selectedDuty := (DutyTable_get_bounds hwf.dutyTable s.speedIndex).1
    omega
  have hwrap := runTask_mot_wraps (s := motorAfter s s.selectedDuty) hwf hp (.inr rfl) rfl
  exact ⟨_, (iterate_succ _ (iterate_mot hwf hp hst h0 hpos.2 (le_refl _))).trans hwrap, rfl, rfl,
    decide_eq_true hpos.1⟩

end Sys2Proof.Machine
end

section
/-! PROOF. The Oscillator FSM (R195 to R211): each entered state's action as one record update, the transitions, the pulse train
inside a sweep, and how far the outer clock can run. -/

namespace Sys2Proof.Machine

/-! ### The steps, by the state entered (R196 to R200) -/

theorem exec_oscState_instr (st : OscState) (s : State) : exec st.instr s = .next (oscStepFrom st s) := by
  cases st <;> rfl

theorem exists_instr_of_mem_taskSteps_osc {i : Instr} (hi : i ∈ taskSteps .osc) : ∃ st : OscState, i = st.instr := by
  simp only [taskSteps, List.mem_cons, List.not_mem_nil, or_false] at hi
  obtain h | h | h | h | h := hi
  · exact ⟨.start, h⟩
  · exact ⟨.off, h⟩
  · exact ⟨.sweepLeft, h⟩
  · exact ⟨.dwell, h⟩
  · exact ⟨.sweepRight, h⟩

theorem oscStepFrom_stOsc (st : OscState) (s : State) : (oscStepFrom st s).stOsc = (oscTransition st s).code := by
  rw [oscStepFrom_eq]

theorem oscStepFrom_enters_off {st : OscState} {s : State} (h : oscTransition st s = .off) :
    oscStepFrom st s = { s with stOsc := 0x01, servoPulseLevel := false } := by
  rw [oscStepFrom_eq, h]
  cases st <;> rfl

theorem oscStepFrom_enters_sweepLeft {st : OscState} {s : State} (h : oscTransition st s = .sweepLeft) :
    oscStepFrom st s =
      { s with
        stOsc := 0x02, phaseElapsed := incr s.cfg.phaseW s.phaseElapsed
        pulseCounter := nextPulse s.cfg s.pulseCounter
        servoPulseLevel := pulseLevel (nextPulse s.cfg s.pulseCounter) s.cfg.widthLeft } := by
  rw [oscStepFrom_eq, h]
  cases st <;> rfl

theorem oscStepFrom_enters_sweepRight {st : OscState} {s : State} (h : oscTransition st s = .sweepRight) :
    oscStepFrom st s =
      { s with
        stOsc := 0x04, phaseElapsed := incr s.cfg.phaseW s.phaseElapsed
        pulseCounter := nextPulse s.cfg s.pulseCounter
        servoPulseLevel := pulseLevel (nextPulse s.cfg s.pulseCounter) s.cfg.widthRight } := by
  rw [oscStepFrom_eq, h]
  cases st <;> rfl

/-- `Dwell` is entered with the outer clock going on, except from `SweepRight`. -/
theorem oscStepFrom_enters_dwell {st : OscState} {s : State} (h : oscTransition st s = .dwell)
    (hst : st ≠ .sweepRight) :
    oscStepFrom st s =
      { s with
        stOsc := 0x03, phaseElapsed := incr s.cfg.phaseW s.phaseElapsed, servoPulseLevel := false } := by
  rw [oscStepFrom_eq, h]
  cases st
  case sweepRight => exact absurd rfl hst
  all_goals rfl

/-- From `SweepRight`, `Dwell` is entered with the outer clock reset first (R200, R203). -/
theorem oscStepFrom_sweepRight_enters_dwell {s : State} (h : oscTransition .sweepRight s = .dwell) :
    oscStepFrom .sweepRight s =
      { s with stOsc := 0x03, phaseElapsed := incr s.cfg.phaseW 0, servoPulseLevel := false } := by
  rw [oscStepFrom_eq, h]
  rfl

/-! ### The transitions -/

/-- With `oscillating` false every state goes to `Off`; `Start` does so in any case. -/
theorem oscTransition_stopped (st : OscState) {s : State} (h : s.oscillating = false) : oscTransition st s = .off := by
  cases st <;> simp [oscTransition, h]

section Oscillating

variable {s : State} (ho : s.oscillating = true)

include ho

theorem oscTransition_off : oscTransition .off s = .sweepLeft := by
  simp [oscTransition, ho]

theorem oscTransition_sweepLeft_stays (h : s.phaseElapsed ≤ s.cfg.sweepLLimit) :
    oscTransition .sweepLeft s = .sweepLeft := by
  simp [oscTransition, ho, Nat.not_lt.2 h]

theorem oscTransition_sweepLeft_ends (h : s.cfg.sweepLLimit < s.phaseElapsed) :
    oscTransition .sweepLeft s = .dwell := by
  simp [oscTransition, ho, h]

theorem oscTransition_dwell_to_right (h : s.cfg.dwellLimit < s.phaseElapsed) :
    oscTransition .dwell s = .sweepRight := by
  simp [oscTransition, ho, h]

theorem oscTransition_dwell_to_left (h : s.phaseElapsed ≤ s.cfg.dwellLimit) (h2 : s.cfg.dwell2Limit < s.phaseElapsed)
    (hl : s.phaseElapsed ≤ s.cfg.sweepLLimit) : oscTransition .dwell s = .sweepLeft := by
  simp [oscTransition, ho, Nat.not_lt.2 h, h2, hl]

theorem oscTransition_dwell_stays (h : s.phaseElapsed ≤ s.cfg.dwellLimit)
    (h2 : s.phaseElapsed ≤ s.cfg.dwell2Limit ∨ s.cfg.sweepLLimit < s.phaseElapsed) :
    oscTransition .dwell s = .dwell := by
  have hn : ¬ (s.cfg.dwell2Limit < s.phaseElapsed ∧ s.phaseElapsed ≤ s.cfg.sweepLLimit) := by omega
  simp only [oscTransition, ho, if_neg (Nat.not_lt.2 h), gt_iff_lt, if_neg hn, Bool.true_eq_false, if_false]

theorem oscTransition_sweepRight_stays (h : s.phaseElapsed ≤ s.cfg.sweepRLimit) :
    oscTransition .sweepRight s = .sweepRight := by
  simp [oscTransition, ho, Nat.not_lt.2 h]

theorem oscTransition_sweepRight_ends (h : s.cfg.sweepRLimit < s.phaseElapsed) :
    oscTransition .sweepRight s = .dwell := by
  simp [oscTransition, ho, h]

end Oscillating

/-! ### One step from each state -/

theorem exec_oscState_stopped (st : OscState) {s : State} (h : s.oscillating = false) :
    exec st.instr s = .next { s with stOsc := 0x01, servoPulseLevel := false } := by
  rw [exec_oscState_instr, oscStepFrom_enters_off (oscTransition_stopped st h)]

/-- Settles O27. -/
theorem oscillatorStopsWithinOneStep : Obligations.OscillatorStopsWithinOneStep := by
  intro s i hi h
  obtain ⟨st, rfl⟩ := exists_instr_of_mem_taskSteps_osc hi
  exact exec_oscState_stopped st h

/-- Settles O22. -/
theorem oscillatorOffStep : Obligations.OscillatorOffStep := by
  refine fun s => ⟨exec_oscState_stopped .off, fun ho => ?_⟩
  exact congrArg Host.Outcome.next (oscStepFrom_enters_sweepLeft (oscTransition_off ho))

/-- Settles O23: the transitions of `SweepLeft`, and the one record update of every step that enters it. -/
theorem sweepLeftStep : Obligations.SweepLeftStep := by
  refine ⟨fun s => ⟨exec_oscState_stopped .sweepLeft, fun ho h => ?_, fun ho h => ?_⟩, fun s t i hi h ht => ?_⟩
  · exact congrArg Host.Outcome.next
      (oscStepFrom_enters_dwell (oscTransition_sweepLeft_ends ho h) (by decide))
  · exact congrArg Host.Outcome.next (oscStepFrom_enters_sweepLeft (oscTransition_sweepLeft_stays ho h))
  · obtain ⟨st, rfl⟩ := exists_instr_of_mem_taskSteps_osc hi
    rw [exec_oscState_instr] at h
    cases h
    rw [oscStepFrom_stOsc] at ht
    rw [oscStepFrom_enters_sweepLeft (OscState.code_inj ht)]
    exact ⟨rfl, rfl, rfl⟩

/-- Settles O24: the limits are ordered (R9 (e)), so the four cases are the branches of the transition. -/
theorem dwellStep : Obligations.DwellStep := by
  intro s hwf
  obtain ⟨hl2, hlt, -⟩ := hwf.limits
  refine ⟨exec_oscState_stopped .dwell, fun ho h => ?_, fun ho h2 hl => ?_, fun ho h => ?_⟩
  · exact congrArg Host.Outcome.next (oscStepFrom_enters_sweepRight (oscTransition_dwell_to_right ho h))
  · exact congrArg Host.Outcome.next
      (oscStepFrom_enters_sweepLeft (oscTransition_dwell_to_left ho (by omega) h2 hl))
  · exact congrArg Host.Outcome.next
      (oscStepFrom_enters_dwell (oscTransition_dwell_stays ho (by omega) (by omega)) (by decide))

/-- The clock that was just reset is incremented to 1: a well-formed `PHASE_W` is not 0. -/
theorem incr_phase_zero {c : Config} (h : c.WfLimits) : incr c.phaseW 0 = 1 := by
  obtain ⟨-, -, -, hfit⟩ := h
  exact incr_of_lt (by omega)

/-- Settles O25: the transitions of `SweepRight`, and the one record update of every step that enters it. -/
theorem sweepRightStep : Obligations.SweepRightStep := by
  refine ⟨fun s hwf => ⟨exec_oscState_stopped .sweepRight, fun ho h => ?_, fun ho h => ?_⟩, fun s t i hi h ht => ?_⟩
  · rw [← incr_phase_zero hwf.limits]
    exact congrArg Host.Outcome.next (oscStepFrom_sweepRight_enters_dwell (oscTransition_sweepRight_ends ho h))
  · exact congrArg Host.Outcome.next (oscStepFrom_enters_sweepRight (oscTransition_sweepRight_stays ho h))
  · obtain ⟨st, rfl⟩ := exists_instr_of_mem_taskSteps_osc hi
    rw [exec_oscState_instr] at h
    cases h
    rw [oscStepFrom_stOsc] at ht
    rw [oscStepFrom_enters_sweepRight (OscState.code_inj ht)]
    exact ⟨rfl, rfl, rfl⟩

/-- Settles O30: the outer clock is not reset on the way from `Off` to `SweepLeft`. -/
theorem restartPassesTheBoundOfThePhaseClock : Obligations.RestartPassesTheBoundOfThePhaseClock := by
  intro s _ ho hv hfit
  refine ⟨_, exec_oscState_instr .off s, ?_⟩
  rw [oscStepFrom_enters_sweepLeft (oscTransition_off ho), hv]
  exact ⟨rfl, incr_of_lt hfit⟩

/-! ### What a step of the Oscillator reads (R208) -/

theorem oscStepFrom_with_power (st : OscState) (s : State) (b : Bool) :
    oscStepFrom st { s with power := b } = { oscStepFrom st s with power := b } := by
  have htrans : oscTransition st { s with power := b } = oscTransition st s := by cases st <;> rfl
  rw [oscStepFrom_eq, oscStepFrom_eq, htrans]

/-- Settles O28. -/
theorem oscillatorIgnoresPower : Obligations.OscillatorIgnoresPower := by
  intro s t i b hi h
  obtain ⟨st, rfl⟩ := exists_instr_of_mem_taskSteps_osc hi
  rw [exec_oscState_instr] at h
  cases h
  rw [exec_oscState_instr, oscStepFrom_with_power]

/-! ### When the outer clock advances (R202, R203) -/

/-- Settles O29: by the state entered; `Off` holds the clock, the three active phases advance it. -/
theorem phaseClockAdvancesOnlyInActivePhases : Obligations.PhaseClockAdvancesOnlyInActivePhases := by
  intro s t i hi h
  obtain ⟨st, rfl⟩ := exists_instr_of_mem_taskSteps_osc hi
  rw [exec_oscState_instr] at h
  cases h
  cases he : oscTransition st s with
  | start => exact absurd he (oscTransition_ne_start st s)
  | off =>
    rw [oscStepFrom_enters_off he]
    exact ⟨fun h => absurd h (by simp), nofun, fun _ => rfl⟩
  | sweepLeft =>
    rw [oscStepFrom_enters_sweepLeft he]
    exact ⟨fun _ _ => rfl, nofun, fun h => absurd h (by simp)⟩
  | sweepRight =>
    rw [oscStepFrom_enters_sweepRight he]
    exact ⟨fun _ _ => rfl, nofun, fun h => absurd h (by simp)⟩
  | dwell =>
    by_cases hst : st = .sweepRight
    · subst hst
      rw [oscStepFrom_sweepRight_enters_dwell he]
      exact ⟨fun _ h => absurd ⟨rfl, rfl⟩ h, fun _ _ => rfl, fun h => absurd h (by simp)⟩
    · rw [oscStepFrom_enters_dwell he hst]
      exact ⟨fun _ _ => rfl, fun h _ => absurd (OscState.instr_inj (b := .sweepRight) h) hst,
        fun h => absurd h (by simp)⟩

/-! ### The pulse train inside a sweep (R209, R210) -/

theorem taskStep_osc_of_stOsc {st : OscState} {s : State} (hw : s.cfg.WfStateWidth) (hst : s.stOsc = st.code) :
    taskStep .osc s = oscStepFrom st s := by
  have hread : OscState.ofCode (s.st .osc) = some st := by
    rw [State.st, State.stField, hst, OscState.ofCode_code_mod hw]
  simp only [taskStep, hread]

/-- Within its range the pulse counter counts modulo `PULSE_PERIOD`. -/
theorem nextPulse_eq_mod {c : Config} (h : c.WfPulsePeriod) {n : Nat} (hn : n < c.pulsePeriod) :
    nextPulse c n = (n + 1) % c.pulsePeriod := by
  unfold nextPulse
  split
  case isTrue hwrap => rw [show n + 1 = c.pulsePeriod by omega, Nat.mod_self]
  case isFalse hlt => rw [Nat.mod_eq_of_lt (by omega), incr_of_lt (by omega)]

/-- A sweep after `j` of its steps: both clocks advanced by `j`, the level by the sweep's width. -/
def sweepAfter (st : OscState) (width : Nat) (s : State) (j : Nat) : State :=
  { s with
    stOsc := st.code
    phaseElapsed := s.phaseElapsed + j
    pulseCounter := (s.pulseCounter + j) % s.cfg.pulsePeriod
    servoPulseLevel := decide ((s.pulseCounter + j) % s.cfg.pulsePeriod ≤ width) }

/-- The action of a sweep, with the wraps that do not happen in a well-formed configuration taken out. -/
theorem sweep_action_eq {s : State} {c : Nat} {width : Nat} (hpp : s.cfg.WfPulsePeriod)
    (hc : s.pulseCounter < s.cfg.pulsePeriod) (hv : s.phaseElapsed + 1 < 2 ^ s.cfg.phaseW) :
    ({ s with
        stOsc := c, phaseElapsed := incr s.cfg.phaseW s.phaseElapsed
        pulseCounter := nextPulse s.cfg s.pulseCounter
        servoPulseLevel := pulseLevel (nextPulse s.cfg s.pulseCounter) width } : State) =
      { s with
        stOsc := c, phaseElapsed := s.phaseElapsed + 1
        pulseCounter := (s.pulseCounter + 1) % s.cfg.pulsePeriod
        servoPulseLevel := decide ((s.pulseCounter + 1) % s.cfg.pulsePeriod ≤ width) } := by
  rw [incr_of_lt hv, nextPulse_eq_mod hpp hc]
  rfl

/-- One step inside a sweep: `st` is one of the two, and the outer clock has not passed its limit. -/
theorem runTask_osc_sweeps {s : State} (hwf : s.cfg.WellFormed) (ho : s.oscillating = true)
    (hc : s.pulseCounter < s.cfg.pulsePeriod) :
    (s.stOsc = 0x02 → s.phaseElapsed ≤ s.cfg.sweepLLimit →
      runTask .osc s = .next (sweepAfter .sweepLeft s.cfg.widthLeft s 1)) ∧
    (s.stOsc = 0x04 → s.phaseElapsed ≤ s.cfg.sweepRLimit →
      runTask .osc s = .next (sweepAfter .sweepRight s.cfg.widthRight s 1)) := by
  obtain ⟨-, hl, hr, hfit⟩ := hwf.limits
  have hpp := hwf.pulsePeriod
  have hw := hwf.stateWidth
  rw [runTask_eq]
  refine ⟨fun hst hv => ?_, fun hst hv => ?_⟩
  · rw [taskStep_osc_of_stOsc (st := .sweepLeft) hw hst,
      oscStepFrom_enters_sweepLeft (oscTransition_sweepLeft_stays ho hv), sweep_action_eq hpp hc (by omega)]
    rfl
  · rw [taskStep_osc_of_stOsc (st := .sweepRight) hw hst,
      oscStepFrom_enters_sweepRight (oscTransition_sweepRight_stays ho hv), sweep_action_eq hpp hc (by omega)]
    rfl

/-- A step after `j` steps of a sweep is step `j + 1` of it. -/
theorem sweepAfter_sweepAfter (st : OscState) (width : Nat) (s : State) (j : Nat) :
    sweepAfter st width (sweepAfter st width s j) 1 = sweepAfter st width s (j + 1) := by
  have hmod : ((s.pulseCounter + j) % s.cfg.pulsePeriod + 1) % s.cfg.pulsePeriod =
      (s.pulseCounter + (j + 1)) % s.cfg.pulsePeriod := by rw [Nat.mod_add_mod, Nat.add_assoc]
  simp only [sweepAfter, hmod, Nat.add_assoc]

theorem sweepAfter_pulseCounter_lt (st : OscState) (width : Nat) {s : State} (h : s.pulseCounter < s.cfg.pulsePeriod)
    (j : Nat) : (sweepAfter st width s j).pulseCounter < (sweepAfter st width s j).cfg.pulsePeriod :=
  Nat.mod_lt _ (Nat.zero_lt_of_lt h)

/-- Repeating the step of a sweep, for either sweep: `hstep` says that the step is a sweep's up to the limit `lim`. -/
theorem iterate_sweep {st : OscState} {width lim : Nat} {s : State} (hst : s.stOsc = st.code)
    (hc : s.pulseCounter < s.cfg.pulsePeriod)
    (hstep : ∀ u : State, u.cfg = s.cfg → u.oscillating = s.oscillating → u.pulseCounter < u.cfg.pulsePeriod →
      u.stOsc = st.code → u.phaseElapsed ≤ lim → runTask .osc u = .next (sweepAfter st width u 1))
    {j : Nat} (hj : 1 ≤ j) :
    s.phaseElapsed + j ≤ lim + 1 → iterate (runTask .osc) j s = .next (sweepAfter st width s j) := by
  induction j, hj using Nat.le_induction with
  | base =>
    intro hle
    rw [iterate_succ 0 (t := s) rfl]
    exact hstep s rfl rfl hc hst (by omega)
  | succ j _ ih =>
    intro hle
    rw [iterate_succ j (ih (by omega)), ← sweepAfter_sweepAfter]
    refine hstep (sweepAfter st width s j) rfl rfl (sweepAfter_pulseCounter_lt st width hc j) rfl ?_
    change s.phaseElapsed + j ≤ lim
    omega

/-- Settles O26: `iterate_sweep` for each of the two sweeps. -/
theorem pulseTrainInsideSweep : Obligations.PulseTrainInsideSweep := by
  intro s j hwf ho hc hj
  refine ⟨fun hst hle => ⟨_, iterate_sweep (st := .sweepLeft) hst hc (fun u hcfg hosc hcu hstu hv => ?_) hj hle,
      rfl, rfl, rfl, rfl⟩,
    fun hst hle => ⟨_, iterate_sweep (st := .sweepRight) hst hc (fun u hcfg hosc hcu hstu hv => ?_) hj hle,
      rfl, rfl, rfl, rfl⟩⟩
  · rw [← hcfg] at hwf hv ⊢
    exact (runTask_osc_sweeps hwf (hosc.trans ho) hcu).1 hstu hv
  · rw [← hcfg] at hwf hv ⊢
    exact (runTask_osc_sweeps hwf (hosc.trans ho) hcu).2 hstu hv

end Sys2Proof.Machine
end

section
/-! PROOF. How far the outer clock runs (R205, R211): a bound for each phase that every step of the Oscillator keeps, unless it
switches a late lap off (log entry 8), and the reset within three steps. -/

namespace Sys2Proof.Machine

/-! ### The bound of each phase -/

/-- How many steps of a restart with a stale clock (R211) lie before each phase. -/
def phaseAllowance : OscState → Nat
  | .start => 0
  | .off => 0
  | .sweepLeft => 1
  | .dwell => 2
  | .sweepRight => 3

theorem phaseAllowance_le (st : OscState) : phaseAllowance st ≤ 3 := by cases st <;> decide

/-- The outer clock is at most `m`, and one more for each step of a restart that was made. -/
def PhaseWithin (m : Nat) (s : State) : Prop :=
  match OscState.ofCode (s.st .osc) with
  | some st => s.phaseElapsed ≤ m + phaseAllowance st
  | none => s.phaseElapsed ≤ m

theorem phaseWithin_of_some {m : Nat} {s : State} {st : OscState} (h : OscState.ofCode (s.st .osc) = some st) :
    PhaseWithin m s ↔ s.phaseElapsed ≤ m + phaseAllowance st := by
  simp only [PhaseWithin, h]

theorem phaseWithin_of_none {m : Nat} {s : State} (h : OscState.ofCode (s.st .osc) = none) :
    PhaseWithin m s ↔ s.phaseElapsed ≤ m := by
  simp only [PhaseWithin, h]

theorem phaseWithin_of_le {m : Nat} {s : State} (h : s.phaseElapsed ≤ m) : PhaseWithin m s := by
  unfold PhaseWithin
  split <;> omega

theorem phaseElapsed_le_of_phaseWithin {m : Nat} {s : State} (h : PhaseWithin m s) : s.phaseElapsed ≤ m + 3 := by
  cases hst : OscState.ofCode (s.st .osc) with
  | none => have := (phaseWithin_of_none hst).1 h; omega
  | some st => have := (phaseWithin_of_some hst).1 h; have := phaseAllowance_le st; omega

/-- The bound of the invariant (`State.phaseBound`) is the one with `m = SWEEP_R_LIMIT - 2`. -/
theorem phaseInRange_iff {s : State} (h : s.cfg.WfLimits) : s.PhaseInRange ↔ PhaseWithin (s.cfg.sweepRLimit - 2) s := by
  obtain ⟨h1, h2, h3, -⟩ := h
  unfold State.PhaseInRange State.phaseBound
  cases hst : OscState.ofCode (s.st .osc) with
  | none => rw [phaseWithin_of_none hst]
  | some st => rw [phaseWithin_of_some hst]; cases st <;> simp only [phaseAllowance] <;> omega

/-! ### One step of the Oscillator -/

theorem incr_le (w n : Nat) : incr w n ≤ n + 1 := Nat.mod_le _ _

/-- In a step that enters an active phase without the reset, the clock still has room for its increment: either the phase
entered allows one more, or a limit below `m` has just been tested. -/
theorem phase_has_room {st : OscState} {s : State} {m : Nat} (hlim : s.cfg.WfLimits) (hm : s.cfg.sweepRLimit ≤ m + 2)
    (h : s.phaseElapsed ≤ m + phaseAllowance st) (hoff : oscTransition st s ≠ .off)
    (hreset : ¬ (st = .sweepRight ∧ oscTransition st s = .dwell)) :
    s.phaseElapsed + 1 ≤ m + phaseAllowance (oscTransition st s) := by
  obtain ⟨h1, h2, h3, -⟩ := hlim
  have ho : s.oscillating = true := by
    by_contra hn
    exact hoff (oscTransition_stopped st (by simpa using hn))
  cases st with
  | start => exact absurd rfl hoff
  | off =>
    rw [oscTransition_off ho]
    exact Nat.succ_le_succ h
  | sweepLeft =>
    obtain hv | hv := le_or_gt s.phaseElapsed s.cfg.sweepLLimit
    · rw [oscTransition_sweepLeft_stays ho hv, phaseAllowance]
      omega
    · rw [oscTransition_sweepLeft_ends ho hv]
      exact Nat.succ_le_succ h
  | dwell =>
    obtain hv | hv := le_or_gt s.phaseElapsed s.cfg.dwellLimit
    · by_cases hl : s.cfg.dwell2Limit < s.phaseElapsed ∧ s.phaseElapsed ≤ s.cfg.sweepLLimit
      · rw [oscTransition_dwell_to_left ho hv hl.1 hl.2, phaseAllowance]
        omega
      · rw [oscTransition_dwell_stays ho hv (by omega), phaseAllowance]
        omega
    · rw [oscTransition_dwell_to_right ho hv]
      exact Nat.succ_le_succ h
  | sweepRight =>
    obtain hv | hv := le_or_gt s.phaseElapsed s.cfg.sweepRLimit
    · rw [oscTransition_sweepRight_stays ho hv, phaseAllowance]
      omega
    · exact absurd ⟨rfl, oscTransition_sweepRight_ends ho hv⟩ hreset

/-- A step keeps the bound of the phase, unless it leaves an active phase for `Off` with the clock above `m`. -/
theorem oscStepFrom_phase {st : OscState} {s : State} {m : Nat} (hlim : s.cfg.WfLimits)
    (hm : s.cfg.sweepRLimit ≤ m + 2) (h : s.phaseElapsed ≤ m + phaseAllowance st) :
    (oscStepFrom st s).phaseElapsed ≤ m + phaseAllowance (oscTransition st s) ∨
      (oscTransition st s = .off ∧ m < s.phaseElapsed) := by
  by_cases hlate : oscTransition st s = .off ∧ m < s.phaseElapsed
  · exact .inr hlate
  refine .inl ?_
  have hroom := phase_has_room hlim hm h
  cases he : oscTransition st s with
  | start => exact absurd he (oscTransition_ne_start st s)
  | off =>
    rw [oscStepFrom_enters_off he]
    exact Nat.le_of_not_lt fun hlt => hlate ⟨he, by simpa [phaseAllowance] using hlt⟩
  | sweepLeft =>
    rw [oscStepFrom_enters_sweepLeft he]
    exact le_trans (incr_le _ _) (he ▸ hroom (by simp [he]) (by simp [he]))
  | sweepRight =>
    rw [oscStepFrom_enters_sweepRight he]
    exact le_trans (incr_le _ _) (he ▸ hroom (by simp [he]) (by simp [he]))
  | dwell =>
    by_cases hst : st = .sweepRight
    · subst hst
      rw [oscStepFrom_sweepRight_enters_dwell he]
      exact le_trans (incr_le _ _) (by rw [phaseAllowance]; omega)
    · rw [oscStepFrom_enters_dwell he hst]
      exact le_trans (incr_le _ _) (he ▸ hroom (by simp [he]) (by simp [hst]))

/-! ### The step of task 2, as its register is read before and after -/

theorem taskStep_osc_of_some {s : State} {st : OscState} (h : OscState.ofCode (s.st .osc) = some st) :
    taskStep .osc s = oscStepFrom st s := by
  simp only [taskStep, h]

theorem taskStep_osc_of_none {s : State} (h : OscState.ofCode (s.st .osc) = none) :
    taskStep .osc s = { s with stOsc := 0x00 } := by
  simp only [taskStep, h]
  rfl

theorem oscStepFrom_cfg (st : OscState) (s : State) : (oscStepFrom st s).cfg = s.cfg := by
  rw [oscStepFrom_eq]

/-- After a step the register is read as the state that the step entered. -/
theorem oscStepFrom_st (st : OscState) {s : State} (hw : s.cfg.WfStateWidth) :
    (oscStepFrom st s).st .osc = (oscTransition st s).code := by
  have h := oscStepFrom_stOsc st s
  rw [State.st, State.stField, h, oscStepFrom_cfg, Nat.mod_eq_of_lt (OscState.code_lt hw _)]

/-- What is special about a step that breaks the bound: R205 does not follow from R200, R203 and R211 (log entry 8). -/
def SwitchedOffAbove (m : Nat) (s : State) : Prop :=
  ∃ st : OscState, OscState.ofCode (s.st .osc) = some st ∧ 0 < phaseAllowance st ∧ s.oscillating = false ∧
    m < s.phaseElapsed

/-- R205: the step of task 2 keeps the bound, or it switches off a lap that is past it. -/
theorem taskStep_osc_phaseWithin {s : State} {m : Nat} (hwf : s.cfg.WellFormed) (hm : s.cfg.sweepRLimit ≤ m + 2)
    (h : PhaseWithin m s) : PhaseWithin m (taskStep .osc s) ∨ SwitchedOffAbove m s := by
  cases hst : OscState.ofCode (s.st .osc) with
  | none =>
    rw [taskStep_osc_of_none hst]
    exact .inl (phaseWithin_of_le ((phaseWithin_of_none hst).1 h))
  | some st =>
    have hv := (phaseWithin_of_some hst).1 h
    rw [taskStep_osc_of_some hst]
    obtain hle | ⟨hoff, hlate⟩ := oscStepFrom_phase hwf.limits hm hv
    · exact .inl ((phaseWithin_of_some (by rw [oscStepFrom_st st hwf.stateWidth, OscState.ofCode_code])).2 hle)
    · have hpos : 0 < phaseAllowance st := by omega
      have hne : st ≠ .start := by rintro rfl; exact absurd hpos (by decide)
      exact .inr ⟨st, hst, hpos, (oscTransition_eq_off_iff hne s).1 hoff, hlate⟩

/-- What such a step leaves: `Off`, with the clock held. -/
theorem taskStep_osc_of_switchedOffAbove {s : State} {m : Nat} (h : SwitchedOffAbove m s) :
    taskStep .osc s = { s with stOsc := 0x01, servoPulseLevel := false } := by
  obtain ⟨st, hst, -, ho, -⟩ := h
  rw [taskStep_osc_of_some hst, oscStepFrom_enters_off (oscTransition_stopped st ho)]

/-! ### Any number of steps -/

theorem taskStep_osc_oscillating (s : State) : (taskStep .osc s).oscillating = s.oscillating := by
  obtain ⟨_, _, _, _, h⟩ := taskStep_osc s
  rw [h]

theorem taskStep_osc_cfg (s : State) : (taskStep .osc s).cfg = s.cfg := by
  obtain ⟨_, _, _, _, h⟩ := taskStep_osc s
  rw [h]

/-- While `oscillating` stays true no step breaks the bound. -/
theorem iterate_osc_phaseWithin {s : State} {m : Nat} (hwf : s.cfg.WellFormed) (ho : s.oscillating = true)
    (hm : s.cfg.sweepRLimit ≤ m + 2) (h : PhaseWithin m s) (n : Nat) :
    ∃ t, iterate (runTask .osc) n s = .next t ∧ t.cfg = s.cfg ∧ t.oscillating = true ∧ PhaseWithin m t := by
  induction n with
  | zero => exact ⟨s, rfl, rfl, ho, h⟩
  | succ n ih =>
    obtain ⟨t, ht, hcfg, hosc, hin⟩ := ih
    refine ⟨taskStep .osc t, ?_, ?_, ?_, ?_⟩
    · rw [iterate_succ n ht, runTask_eq]
    · rw [taskStep_osc_cfg, hcfg]
    · rw [taskStep_osc_oscillating, hosc]
    · rw [← hcfg] at hwf hm
      obtain hkeep | ⟨-, -, -, hoff, -⟩ := taskStep_osc_phaseWithin hwf hm hin
      · exact hkeep
      · rw [hosc] at hoff; cases hoff

/-! ### The reset within three steps (R211) -/

section Resets

variable {s : State} (hwf : s.cfg.WellFormed) (ho : s.oscillating = true) (hv : s.cfg.sweepRLimit < s.phaseElapsed)

/-- `k` steps lead to `Dwell` with the clock reset and incremented once. -/
def ResetsIn (k : Nat) (s : State) : Prop :=
  ∃ t, iterate (runTask .osc) k s = .next t ∧ t.stOsc = 0x03 ∧ t.phaseElapsed = 1

/-- If a step is made and the rest resets in `k`, the whole resets in `k + 1`. -/
theorem resetsIn_succ {s u : State} {k : Nat} (hstep : runTask .osc s = .next u) (h : ResetsIn k u) :
    ResetsIn (k + 1) s := by
  obtain ⟨t, ht, hst, hv⟩ := h
  exact ⟨t, by rw [iterate, hstep, andThen_next, ht], hst, hv⟩

include hwf ho hv

theorem resetsIn_one (hst : s.stOsc = 0x04) : ResetsIn 1 s := by
  refine ⟨_, (iterate_succ 0 rfl).trans (runTask_eq .osc s), ?_⟩
  rw [taskStep_osc_of_stOsc (st := .sweepRight) hwf.stateWidth hst,
    oscStepFrom_sweepRight_enters_dwell (oscTransition_sweepRight_ends ho hv)]
  exact ⟨rfl, incr_phase_zero hwf.limits⟩

theorem resetsIn_two (hst : s.stOsc = 0x03) (hfit : s.phaseElapsed + 1 < 2 ^ s.cfg.phaseW) : ResetsIn 2 s := by
  obtain ⟨-, -, hr, -⟩ := hwf.limits
  have hstep := taskStep_osc_of_stOsc (st := .dwell) hwf.stateWidth hst
  rw [oscStepFrom_enters_sweepRight (oscTransition_dwell_to_right ho (by omega)), incr_of_lt hfit] at hstep
  refine resetsIn_succ ((runTask_eq .osc s).trans (congrArg _ hstep)) (resetsIn_one hwf ho ?_ rfl)
  exact Nat.lt_succ_of_lt hv

theorem resetsIn_three (hst : s.stOsc = 0x02) (hfit : s.phaseElapsed + 2 < 2 ^ s.cfg.phaseW) : ResetsIn 3 s := by
  obtain ⟨-, hl, hr, -⟩ := hwf.limits
  have hstep := taskStep_osc_of_stOsc (st := .sweepLeft) hwf.stateWidth hst
  rw [oscStepFrom_enters_dwell (oscTransition_sweepLeft_ends ho (by omega)) (by decide),
    incr_of_lt (by omega)] at hstep
  refine resetsIn_succ ((runTask_eq .osc s).trans (congrArg _ hstep)) (resetsIn_two hwf ho ?_ rfl hfit)
  exact Nat.lt_succ_of_lt hv

end Resets

/-- Settles O31: the reset by the phase it starts from, the two bounds by the invariant `PhaseWithin`. -/
theorem phaseClockResetsWithinThreeSteps : Obligations.PhaseClockResetsWithinThreeSteps := by
  intro s hwf ho
  obtain ⟨-, h2, h3, -⟩ := hwf.limits
  refine ⟨fun hst hv hfit => ?_, fun _ n => ?_, fun _ hv n => ?_⟩
  · simp only [List.mem_cons, List.not_mem_nil, or_false] at hst
    obtain hst | hst | hst := hst
    · exact (resetsIn_three hwf ho hv hst (by omega)).elim fun t ht => ⟨3, t, by omega, ht⟩
    · exact (resetsIn_two hwf ho hv hst (by omega)).elim fun t ht => ⟨2, t, by omega, ht⟩
    · exact (resetsIn_one hwf ho hv hst).elim fun t ht => ⟨1, t, by omega, ht⟩
  · obtain ⟨t, ht, -, -, hin⟩ := iterate_osc_phaseWithin hwf ho (m := max s.phaseElapsed s.cfg.sweepRLimit)
      (by omega) (phaseWithin_of_le (by omega)) n
    exact ⟨t, ht, phaseElapsed_le_of_phaseWithin hin⟩
  · obtain ⟨t, ht, -, -, hin⟩ := iterate_osc_phaseWithin hwf ho (m := s.cfg.sweepRLimit - 2)
      (by omega) (phaseWithin_of_le (by omega)) n
    have hle := phaseElapsed_le_of_phaseWithin hin
    exact ⟨t, ht, by omega⟩

end Sys2Proof.Machine
end

section
/-! PROOF. The Display Animation FSM, the Output Composer, `Start` and the unrecognised state (R138, R140, R220 to R235). -/

namespace Sys2Proof.Machine

/-! ### The Display Animation FSM (R221 to R224) -/

theorem exec_dispState_instr (st : DispState) (s : State) : exec st.instr s = .next (dispStepFrom st s) := by
  cases st <;> rfl

theorem exists_instr_of_mem_taskSteps_disp {i : Instr} (hi : i ∈ taskSteps .disp) : ∃ st : DispState, i = st.instr := by
  simp only [taskSteps, List.mem_cons, List.not_mem_nil, or_false] at hi
  obtain h | h | h := hi
  · exact ⟨.start, h⟩
  · exact ⟨.dwell, h⟩
  · exact ⟨.output, h⟩

theorem dispStepFrom_enters_dwell {st : DispState} {s : State} (h : dispTransition st s = .dwell) :
    dispStepFrom st s = { s with stDisp := 0x01 } := by
  rw [dispStepFrom_eq, h]
  rfl

theorem dispStepFrom_enters_output {st : DispState} {s : State} (h : dispTransition st s = .output) :
    dispStepFrom st s =
      { s with
        stDisp := 0x02, frameIndex := s.frameIndex ^^^ 1#1
        emitted := s.emitted ++ [.bitmapRedraw (s.frameIndex ^^^ 1#1)] } := by
  rw [dispStepFrom_eq, h]
  rfl

theorem dispTransition_power_off (st : DispState) {s : State} (h : s.power = false) :
    dispTransition st s = .dwell := by
  cases st <;> simp [dispTransition, h]

theorem dispTransition_power_on {st : DispState} (hst : st ≠ .start) {s : State} (h : s.power = true) :
    dispTransition st s = .output := by
  cases st
  case start => exact absurd rfl hst
  all_goals simp [dispTransition, h]

/-- The steps from `Dwell` and from `Output` differ in nothing: `power` alone decides. -/
theorem exec_dispState_branches {st : DispState} (hst : st ≠ .start) (s : State) :
    (s.power = false → exec st.instr s = .next { s with stDisp := 0x01 }) ∧
    (s.power = true → exec st.instr s = .next
      { s with
        stDisp := 0x02, frameIndex := s.frameIndex ^^^ 1#1
        emitted := s.emitted ++ [.bitmapRedraw (s.frameIndex ^^^ 1#1)] }) := by
  rw [exec_dispState_instr]
  exact ⟨fun hp => congrArg _ (dispStepFrom_enters_dwell (dispTransition_power_off st hp)),
    fun hp => congrArg _ (dispStepFrom_enters_output (dispTransition_power_on hst hp))⟩

/-- Settles O32. -/
theorem displayDwellStep : Obligations.DisplayDwellStep := exec_dispState_branches (st := .dwell) (by decide)

/-- Settles O33: by the state entered, and by `power` for which state that is. -/
theorem displayOutputStep : Obligations.DisplayOutputStep := by
  refine ⟨exec_dispState_branches (st := .output) (by decide), fun s t i hi h => ?_⟩
  obtain ⟨st, rfl⟩ := exists_instr_of_mem_taskSteps_disp hi
  rw [exec_dispState_instr] at h
  cases h
  refine ⟨?_, ?_, fun hne => ?_⟩
  · cases he : dispTransition st s with
    | start => exact absurd he (dispTransition_ne_start st s)
    | dwell => rw [dispStepFrom_enters_dwell he]; exact fun h => absurd h (by simp)
    | output => rw [dispStepFrom_enters_output he]; exact fun _ => ⟨rfl, rfl⟩
  · cases he : dispTransition st s with
    | start => exact absurd he (dispTransition_ne_start st s)
    | dwell => rw [dispStepFrom_enters_dwell he]; exact fun _ => ⟨rfl, rfl⟩
    | output => rw [dispStepFrom_enters_output he]; exact fun h => absurd rfl h
  · cases hp : s.power with
    | false => simp [dispStepFrom_enters_dwell (dispTransition_power_off st hp)]
    | true =>
      have hst : st ≠ .start := by rintro rfl; exact hne rfl
      simp [dispStepFrom_enters_output (dispTransition_power_on hst hp)]

/-! ### The Output Composer (R231 to R234) -/

theorem exec_outState_instr (st : OutState) (s : State) : exec st.instr s = .next (outStepFrom st s) := by
  cases st <;> rfl

theorem exists_instr_of_mem_taskSteps_out {i : Instr} (hi : i ∈ taskSteps .out) : ∃ st : OutState, i = st.instr := by
  simp only [taskSteps, List.mem_cons, List.not_mem_nil, or_false] at hi
  obtain h | h := hi
  · exact ⟨.start, h⟩
  · exact ⟨.output, h⟩

/-- A direction that fits two bits is kept by them. -/
theorem ofNat_dir_toNat {dir : Nat} (h : dir ≤ 3) : (BitVec.ofNat 2 dir).toNat = dir :=
  Nat.mod_eq_of_lt (by omega)

/-- The composed word, field by field (R109, R233). -/
theorem compose_bits (s : State) :
    s.compose.getLsbD 0 = s.power ∧ s.compose.getLsbD 1 = s.oscillating ∧ s.compose.getLsbD 2 = s.servoPulseLevel ∧
      s.compose.getLsbD 3 = s.motorEnabled ∧ (s.cfg.dirCode ≤ 3 → (s.compose.extractLsb' 4 2).toNat = s.cfg.dirCode) ∧
      s.compose.extractLsb' 6 2 = 0#2 := by
  obtain ⟨h0, h1, h2, h3, hd, hz⟩ :=
    outWord_bits (BitVec.ofNat 2 s.cfg.dirCode) s.motorEnabled s.servoPulseLevel s.oscillating s.power
  exact ⟨h0, h1, h2, h3, fun hle => (congrArg BitVec.toNat hd).trans (ofNat_dir_toNat hle), hz⟩

/-- Settles O34: both steps write the composed word. -/
theorem composerWritesPackedWord : Obligations.ComposerWritesPackedWord := by
  intro s i hi
  obtain ⟨st, rfl⟩ := exists_instr_of_mem_taskSteps_out hi
  exact ⟨s.compose, by rw [exec_outState_instr, outStepFrom_eq], compose_bits s⟩

/-- Settles O35: the word's value is the sum of its fields, and the composed word is the word of the registers' fields. -/
theorem outwordWritesItsFields : Obligations.OutwordWritesItsFields := by
  refine ⟨fun s dir m sv o p hd => ⟨outWord (BitVec.ofNat 2 dir) m sv o p, rfl, ?_⟩, fun s hst => ?_⟩
  · rw [outWord_toNat, ofNat_dir_toNat hd]
  · rw [show exec .outOutput s = _ from exec_outState_instr .output s, outStepFrom_eq, ← hst]
    rfl

/-! ### An unrecognised code (R138) -/

theorem taskStep_of_unrecognised {t : Task} {s : State} (h : stateInstr t (s.st t) = none) :
    taskStep t s = (if t = .inp then s.snapshot s.samplePin else s).setSt t startCode := by
  cases t <;> simp only [stateInstr, Option.map_eq_none_iff] at h <;> simp only [taskStep, h] <;> rfl

/-- Settles O36: the five numbers are the sizes of the tables. -/
theorem unrecognisedStateReturnsToStart : Obligations.UnrecognisedStateReturnsToStart := by
  intro s
  simp only [runTask_eq]
  refine ⟨fun h => ?_, fun h => ?_, fun h => ?_, fun h => ?_, fun h => ?_⟩
  · exact congrArg _ (taskStep_of_unrecognised (t := .inp) (by rw [stateInstr, InState.ofCode_eq_none_iff.2 h]; rfl))
  · exact congrArg _ (taskStep_of_unrecognised (t := .mot) (by rw [stateInstr, MotState.ofCode_eq_none_iff.2 h]; rfl))
  · exact congrArg _ (taskStep_of_unrecognised (t := .osc) (by rw [stateInstr, OscState.ofCode_eq_none_iff.2 h]; rfl))
  · exact congrArg _ (taskStep_of_unrecognised (t := .disp) (by rw [stateInstr, DispState.ofCode_eq_none_iff.2 h]; rfl))
  · exact congrArg _ (taskStep_of_unrecognised (t := .out) (by rw [stateInstr, OutState.ofCode_eq_none_iff.2 h]; rfl))

/-! ### The code that a step leaves in its state register -/

theorem inStepFrom_cfg (st : InState) (r : Nibble) (s : State) : (inStepFrom st r s).cfg = s.cfg := by
  rw [inStepFrom_eq]

theorem motStepFrom_cfg (st : MotState) (s : State) : (motStepFrom st s).cfg = s.cfg := by
  rw [motStepFrom_eq]

theorem motStepFrom_stMot (st : MotState) (s : State) : (motStepFrom st s).stMot = (motTransition st s).code := by
  rw [motStepFrom_eq]

theorem dispStepFrom_cfg (st : DispState) (s : State) : (dispStepFrom st s).cfg = s.cfg := by
  rw [dispStepFrom_eq]

theorem dispStepFrom_stDisp (st : DispState) (s : State) : (dispStepFrom st s).stDisp = (dispTransition st s).code := by
  rw [dispStepFrom_eq]

/-- The code is one of its FSM's table, and not the one of `Start`. -/
def EntersRecognised (t : Task) (s : State) : Prop :=
  ∃ n : Nat, s.stField t = n ∧ 0 < n ∧ n < 2 ^ s.cfg.stateW ∧ stateInstr t n ≠ none

/-- A code that fits is read as it stands. -/
theorem EntersRecognised.st {t : Task} {s : State} (h : EntersRecognised t s) :
    s.stField t < 2 ^ s.cfg.stateW ∧ 0 < s.st t ∧ stateInstr t (s.st t) ≠ none := by
  obtain ⟨n, rfl, hpos, hlt, hne⟩ := h
  rw [State.st_eq_of_lt hlt]
  exact ⟨hlt, hpos, hne⟩

theorem InState.code_pos {st : InState} (h : st ≠ .start) : 0 < st.code :=
  Nat.pos_of_ne_zero fun h0 => h (InState.code_inj (b := .start) h0)

theorem MotState.code_pos {st : MotState} (h : st ≠ .start) : 0 < st.code :=
  Nat.pos_of_ne_zero fun h0 => h (MotState.code_inj (b := .start) h0)

theorem OscState.code_pos {st : OscState} (h : st ≠ .start) : 0 < st.code :=
  Nat.pos_of_ne_zero fun h0 => h (OscState.code_inj (b := .start) h0)

theorem DispState.code_pos {st : DispState} (h : st ≠ .start) : 0 < st.code :=
  Nat.pos_of_ne_zero fun h0 => h (DispState.code_inj (b := .start) h0)

/-- R140: a step from a recognised state enters a recognised state, and never `Start`. -/
theorem taskStep_entersRecognised {t : Task} {s : State} (hw : s.cfg.WfStateWidth)
    (h : stateInstr t (s.st t) ≠ none) : EntersRecognised t (taskStep t s) := by
  cases t <;> simp only [stateInstr, ne_eq, Option.map_eq_none_iff] at h <;>
    obtain ⟨st, hst⟩ := Option.ne_none_iff_exists'.1 h <;> simp only [taskStep, hst]
  case inp =>
    refine ⟨_, inStepFrom_stIn st _ s, InState.code_pos (inTransition_ne_start st _), ?_, by simp [stateInstr]⟩
    rw [inStepFrom_cfg]
    exact InState.code_lt hw _
  case mot =>
    refine ⟨_, motStepFrom_stMot st s, MotState.code_pos (motTransition_ne_start st s), ?_, by simp [stateInstr]⟩
    rw [motStepFrom_cfg]
    exact MotState.code_lt hw _
  case osc =>
    refine ⟨_, oscStepFrom_stOsc st s, OscState.code_pos (oscTransition_ne_start st s), ?_, by simp [stateInstr]⟩
    rw [oscStepFrom_cfg]
    exact OscState.code_lt hw _
  case disp =>
    refine ⟨_, dispStepFrom_stDisp st s, DispState.code_pos (dispTransition_ne_start st s), ?_, by simp [stateInstr]⟩
    rw [dispStepFrom_cfg]
    exact DispState.code_lt hw _
  case out =>
    rw [outStepFrom_eq]
    exact ⟨OutState.output.code, rfl, by decide, OutState.code_lt hw .output, by simp [stateInstr]⟩

/-! ### `Start` (R140) -/

/-- A step from an unrecognised code leaves the code of `Start`, and emits nothing (D8). -/
theorem taskStep_unrecognised_start {t : Task} {s : State} (h : stateInstr t (s.st t) = none) :
    (taskStep t s).st t = 0x00 ∧ (taskStep t s).emitted = s.emitted := by
  rw [taskStep_of_unrecognised h, State.setSt_st_self, State.setSt_emitted]
  exact ⟨Nat.zero_mod _, by split <;> rfl⟩

/-- Settles O37: the steps from `Start` are unconditional, and what a task's step enters follows from whether its code is
recognised. -/
theorem startIsInitialOnly : Obligations.StartIsInitialOnly := by
  refine ⟨fun t => by cases t <;> rfl, fun s => exec_enters_actionless .start rfl (.inl rfl),
    fun s => congrArg Host.Outcome.next (motStepFrom_enters_off (st := .start) rfl),
    fun s => congrArg Host.Outcome.next (oscStepFrom_enters_off (st := .start) rfl),
    fun s => congrArg Host.Outcome.next (dispStepFrom_enters_dwell (st := .start) rfl),
    fun s => ⟨s.compose, ?_, ?_⟩, fun k s t hwf h => ?_⟩
  · exact congrArg Host.Outcome.next (outStepFrom_eq .start s)
  · exact congrArg Host.Outcome.next (outStepFrom_eq .output s)
  · rw [runTask_eq] at h
    cases h
    refine ⟨fun hne => ?_, taskStep_unrecognised_start⟩
    obtain ⟨-, hpos, -⟩ := (taskStep_entersRecognised hwf.stateWidth hne).st
    exact Nat.ne_of_gt hpos

end Sys2Proof.Machine
end

section
/-! PROOF. The Scheduler (R130 to R141) and the writers of the registers (R32): what one task's step leaves alone, and the tick
transaction as five slots. -/

namespace Sys2Proof.Machine

/-! ### One writer per register (R32) -/

/-- From `s` to `t` at most the registers of the writer `k` and the list of events changed. -/
structure OnlyWrites (k : Task) (s t : State) : Prop where
  scheduler : t.schedulerRegs = s.schedulerRegs
  outside : t.outside = s.outside
  input : k ≠ .inp → t.inputRegs = s.inputRegs
  motor : k ≠ .mot → t.motorRegs = s.motorRegs
  oscillator : k ≠ .osc → t.oscillatorRegs = s.oscillatorRegs
  display : k ≠ .disp → t.displayRegs = s.displayRegs
  composer : k ≠ .out → t.composerRegs = s.composerRegs

theorem inStepFrom_onlyWrites (st : InState) (r : Nibble) (s : State) : OnlyWrites .inp s (inStepFrom st r s) := by
  rw [inStepFrom_eq]
  exact ⟨rfl, rfl, fun h => absurd rfl h, fun _ => rfl, fun _ => rfl, fun _ => rfl, fun _ => rfl⟩

theorem motStepFrom_onlyWrites (st : MotState) (s : State) : OnlyWrites .mot s (motStepFrom st s) := by
  rw [motStepFrom_eq]
  exact ⟨rfl, rfl, fun _ => rfl, fun h => absurd rfl h, fun _ => rfl, fun _ => rfl, fun _ => rfl⟩

theorem oscStepFrom_onlyWrites (st : OscState) (s : State) : OnlyWrites .osc s (oscStepFrom st s) := by
  rw [oscStepFrom_eq]
  exact ⟨rfl, rfl, fun _ => rfl, fun _ => rfl, fun h => absurd rfl h, fun _ => rfl, fun _ => rfl⟩

theorem dispStepFrom_onlyWrites (st : DispState) (s : State) : OnlyWrites .disp s (dispStepFrom st s) := by
  rw [dispStepFrom_eq]
  exact ⟨rfl, rfl, fun _ => rfl, fun _ => rfl, fun _ => rfl, fun h => absurd rfl h, fun _ => rfl⟩

theorem outStepFrom_onlyWrites (st : OutState) (s : State) : OnlyWrites .out s (outStepFrom st s) := by
  rw [outStepFrom_eq]
  exact ⟨rfl, rfl, fun _ => rfl, fun _ => rfl, fun _ => rfl, fun _ => rfl, fun h => absurd rfl h⟩

theorem inStepSampling_onlyWrites (r : Nibble) (s : State) : OnlyWrites .inp s (inStepSampling r s) := by
  unfold inStepSampling
  split
  · exact inStepFrom_onlyWrites _ r s
  · exact ⟨rfl, rfl, fun h => absurd rfl h, fun _ => rfl, fun _ => rfl, fun _ => rfl, fun _ => rfl⟩

/-- The step of a task, from a recognised state or not. -/
theorem taskStep_onlyWrites (k : Task) (s : State) : OnlyWrites k s (taskStep k s) := by
  cases k with
  | inp => rw [← inStepSampling_samplePin]; exact inStepSampling_onlyWrites s.samplePin s
  | mot =>
    simp only [taskStep]
    split
    · exact motStepFrom_onlyWrites _ s
    · exact ⟨rfl, rfl, fun _ => rfl, fun h => absurd rfl h, fun _ => rfl, fun _ => rfl, fun _ => rfl⟩
  | osc =>
    simp only [taskStep]
    split
    · exact oscStepFrom_onlyWrites _ s
    · exact ⟨rfl, rfl, fun _ => rfl, fun _ => rfl, fun h => absurd rfl h, fun _ => rfl, fun _ => rfl⟩
  | disp =>
    simp only [taskStep]
    split
    · exact dispStepFrom_onlyWrites _ s
    · exact ⟨rfl, rfl, fun _ => rfl, fun _ => rfl, fun _ => rfl, fun h => absurd rfl h, fun _ => rfl⟩
  | out =>
    simp only [taskStep]
    split
    · exact outStepFrom_onlyWrites _ s
    · exact ⟨rfl, rfl, fun _ => rfl, fun _ => rfl, fun _ => rfl, fun _ => rfl, fun h => absurd rfl h⟩

/-- An instruction is the tick transaction, an output word, or an instruction of one writer. -/
theorem exec_onlyWrites {i : Instr} {s t : State} (h : exec i s = .next t) :
    i = .schedTick ∨ (∃ d m sv o p, i = .outword d m sv o p) ∨
      ∃ k, (i ∈ taskSteps k ∨ (k = .inp ∧ i ∈ inputCodes)) ∧ OnlyWrites k s t := by
  cases i.group with
  | inputCode c =>
    rw [exec_inputCode_instr] at h
    cases h
    exact .inr (.inr ⟨.inp, .inr ⟨rfl, by cases c <;> decide⟩, inStepSampling_onlyWrites _ s⟩)
  | inState st =>
    rw [exec_inState_instr] at h
    cases h
    exact .inr (.inr ⟨.inp, .inl (by cases st <;> decide), inStepFrom_onlyWrites st _ s⟩)
  | motState st =>
    rw [exec_motState_instr] at h
    cases h
    exact .inr (.inr ⟨.mot, .inl (by cases st <;> decide), motStepFrom_onlyWrites st s⟩)
  | oscState st =>
    rw [exec_oscState_instr] at h
    cases h
    exact .inr (.inr ⟨.osc, .inl (by cases st <;> decide), oscStepFrom_onlyWrites st s⟩)
  | dispState st =>
    rw [exec_dispState_instr] at h
    cases h
    exact .inr (.inr ⟨.disp, .inl (by cases st <;> decide), dispStepFrom_onlyWrites st s⟩)
  | outState st =>
    rw [exec_outState_instr] at h
    cases h
    exact .inr (.inr ⟨.out, .inl (by cases st <;> decide), outStepFrom_onlyWrites st s⟩)
  | schedTick => exact .inl rfl
  | outword dir m sv o p => exact .inr (.inl ⟨dir, m, sv, o, p, rfl⟩)

/-- Settles O41: an instruction of one writer changes no other's registers, and an output word only the port. -/
theorem everyRegisterHasOneWriter : Obligations.EveryRegisterHasOneWriter := by
  intro s t i h
  obtain rfl | ⟨d, m, sv, o, p, rfl⟩ | ⟨k, hk, hw⟩ := exec_onlyWrites h
  · exact ⟨nofun, nofun, nofun, nofun, nofun, nofun, nofun⟩
  · cases h
    exact ⟨fun _ => ⟨rfl, rfl⟩, fun _ _ _ => rfl, fun _ _ => rfl, fun _ _ => rfl, fun _ _ => rfl, fun _ _ => rfl,
      fun _ _ hne => absurd rfl (hne d m sv o p)⟩
  · have other {j : Task} (hj : j ≠ .inp) (hi : i ∉ taskSteps j) : k ≠ j := by
      rintro rfl
      obtain hk | ⟨hk, -⟩ := hk
      · exact hi hk
      · exact hj hk
    have composer (hi : i ∉ taskSteps .out) : t.composerRegs = s.composerRegs := hw.composer (other (by decide) hi)
    refine ⟨fun _ => ⟨hw.scheduler, hw.outside⟩, fun _ hi hc => hw.input ?_,
      fun _ hi => hw.motor (other (by decide) hi), fun _ hi => hw.oscillator (other (by decide) hi),
      fun _ hi => hw.display (other (by decide) hi), fun _ hi => congrArg Prod.snd (composer hi),
      fun _ hi _ => congrArg Prod.fst (composer hi)⟩
    rintro rfl
    obtain hk | ⟨-, hk⟩ := hk
    · exact hi hk
    · exact hc hk

/-! ### The slot of a task -/

/-- A slot leaves alone what its task's step and the clear of its counter leave alone. -/
theorem taskSlot_keeps {α : Type} (f : State → α) (k : Task) {s : State} (hstep : f (taskStep k s) = f s)
    (hclear : ∀ u : State, f (u.clearElapsed k) = f u) : f (taskSlot k s) = f s := by
  unfold taskSlot
  split
  · rw [hclear, hstep]
  · rfl

section Slot

variable {k : Task} (s : State)

theorem taskSlot_inputRegs (h : k ≠ .inp) : (taskSlot k s).inputRegs = s.inputRegs :=
  taskSlot_keeps State.inputRegs k ((taskStep_onlyWrites k s).input h) fun _ => rfl

theorem taskSlot_motorRegs (h : k ≠ .mot) : (taskSlot k s).motorRegs = s.motorRegs :=
  taskSlot_keeps State.motorRegs k ((taskStep_onlyWrites k s).motor h) fun _ => rfl

theorem taskSlot_oscillatorRegs (h : k ≠ .osc) : (taskSlot k s).oscillatorRegs = s.oscillatorRegs :=
  taskSlot_keeps State.oscillatorRegs k ((taskStep_onlyWrites k s).oscillator h) fun _ => rfl

theorem taskSlot_displayRegs (h : k ≠ .disp) : (taskSlot k s).displayRegs = s.displayRegs :=
  taskSlot_keeps State.displayRegs k ((taskStep_onlyWrites k s).display h) fun _ => rfl

theorem taskSlot_composerRegs (h : k ≠ .out) : (taskSlot k s).composerRegs = s.composerRegs :=
  taskSlot_keeps State.composerRegs k ((taskStep_onlyWrites k s).composer h) fun _ => rfl

end Slot

/-! ### The tick transaction (R131 to R135) -/

/-- The state in which the first task is tested: the tick consumed, every counter incremented. -/
def tickBegin (s : State) : State := s.consumeTick.incrementElapsed

/-- The state in which each task is tested: the slots of the tasks before it are over (R135). -/
def tickAt (s : State) : Task → State
  | .inp => tickBegin s
  | .mot => taskSlot .inp (tickBegin s)
  | .osc => taskSlot .mot (taskSlot .inp (tickBegin s))
  | .disp => taskSlot .osc (taskSlot .mot (taskSlot .inp (tickBegin s)))
  | .out => taskSlot .disp (taskSlot .osc (taskSlot .mot (taskSlot .inp (tickBegin s))))

/-- The state at the end of a tick transaction. -/
def tickEnd (s : State) : State := taskSlot .out (tickAt s .out)

theorem exec_schedTick (s : State) : exec .schedTick s = .next (tickEnd s) := execSchedTick_eq s

theorem eq_tickEnd {s t : State} (h : exec .schedTick s = .next t) : t = tickEnd s := by
  rw [exec_schedTick] at h
  exact (Host.Outcome.next.inj h).symm

/-- What every slot leaves alone is at the end as it was at the beginning. -/
theorem tickEnd_eq_of_slots {α : Type} (f : State → α) {s : State}
    (h : ∀ k, f (taskSlot k (tickAt s k)) = f (tickAt s k)) : f (tickEnd s) = f (tickBegin s) :=
  calc f (tickEnd s) = f (tickAt s .out) := h .out
    _ = f (tickAt s .disp) := h .disp
    _ = f (tickAt s .osc) := h .osc
    _ = f (tickAt s .mot) := h .mot
    _ = f (tickAt s .inp) := h .inp

@[simp] theorem tickAt_cfg (s : State) (k : Task) : (tickAt s k).cfg = s.cfg := by
  cases k <;> simp [tickAt, tickBegin]

@[simp] theorem tickEnd_cfg (s : State) : (tickEnd s).cfg = s.cfg := by simp [tickEnd]

theorem tickEnd_outside (s : State) : (tickEnd s).outside = s.outside :=
  tickEnd_eq_of_slots State.outside fun _ => taskSlot_outside _ _

theorem tickEnd_tickFlag (s : State) : (tickEnd s).tickFlag = false :=
  tickEnd_eq_of_slots State.tickFlag fun _ => taskSlot_tickFlag _ _

theorem tickBegin_elapsed (s : State) (k : Task) :
    (tickBegin s).elapsed.get k = incr s.cfg.elapsedW (s.elapsed.get k) :=
  PerTask_get_map _ _ _

/-- The counter of a task when its slot comes: incremented, and touched by no slot before it. -/
theorem tickAt_elapsed (s : State) (k : Task) :
    (tickAt s k).elapsed.get k = incr s.cfg.elapsedW (s.elapsed.get k) := by
  cases k <;> simp [tickAt, taskSlot_elapsed, tickBegin_elapsed]

/-- Every counter at the end: 0 where the task was due, incremented where it was not. -/
theorem tickEnd_elapsed (s : State) (k : Task) :
    (tickEnd s).elapsed.get k =
      if s.cfg.period.get k ≤ incr s.cfg.elapsedW (s.elapsed.get k) then 0
      else incr s.cfg.elapsedW (s.elapsed.get k) := by
  cases k <;> simp [tickEnd, tickAt, taskSlot_elapsed, tickBegin]

/-- Settles O38. -/
theorem tickTransactionCompletes : Obligations.TickTransactionCompletes := by
  refine fun s => ⟨tickEnd s, exec_schedTick s, tickEnd_tickFlag s, tickEnd_outside s,
    fun k => ⟨fun h => ?_, fun h => ?_⟩⟩
  · exact (tickEnd_elapsed s k).trans (if_pos h)
  · exact (tickEnd_elapsed s k).trans (if_neg (Nat.not_le.2 h))

/-- What the slot of a task does when it comes. -/
theorem taskSlot_tickAt (s : State) (k : Task) :
    (s.cfg.period.get k ≤ incr s.cfg.elapsedW (s.elapsed.get k) →
      ∃ u, runTask k (tickAt s k) = .next u ∧ taskSlot k (tickAt s k) = { u with elapsed := u.elapsed.set k 0 }) ∧
    (¬ s.cfg.period.get k ≤ incr s.cfg.elapsedW (s.elapsed.get k) → taskSlot k (tickAt s k) = tickAt s k) := by
  rw [← tickAt_elapsed s k, ← tickAt_cfg s k]
  exact ⟨fun h => ⟨_, runTask_eq k _, taskSlot_due h⟩, fun h => taskSlot_not_due (Nat.not_le.1 h)⟩

/-- A task of period 1 is due in the next transaction when its counter is below its period, that is 0. -/
theorem due_of_period_one {s : State} {k : Task} (hwf : s.cfg.WellFormed) (hp : s.cfg.period.get k = 1)
    (h : s.elapsed.get k = 0) : s.cfg.period.get k ≤ incr s.cfg.elapsedW (s.elapsed.get k) := by
  obtain ⟨-, hfit⟩ := hwf.periods k
  rw [h, hp, incr_of_lt (by omega)]

/-- Settles O39: the five slots of `tickEnd`. -/
theorem dueTasksRunOnceInOrder : Obligations.DueTasksRunOnceInOrder := by
  refine ⟨fun s => ⟨tickAt s .mot, tickAt s .osc, tickAt s .disp, tickAt s .out, tickEnd s, taskSlot_tickAt s .inp,
    taskSlot_tickAt s .mot, taskSlot_tickAt s .osc, taskSlot_tickAt s .disp, taskSlot_tickAt s .out, exec_schedTick s⟩,
    fun s k hwf hp hlt => ?_⟩
  have hdue := due_of_period_one hwf hp (by omega)
  rw [← tickBegin_elapsed] at hdue
  exact decide_eq_true hdue

/-! ### A task that is not due (R134) -/

/-- Registers that only the slot of task `k` writes are as before if `k` is not due. -/
theorem tickEnd_keeps {α : Type} (f : State → α) (k : Task) {s : State}
    (hother : ∀ j, j ≠ k → ∀ u, f (taskSlot j u) = f u) (hbegin : f (tickBegin s) = f s)
    (hundue : incr s.cfg.elapsedW (s.elapsed.get k) < s.cfg.period.get k) : f (tickEnd s) = f s := by
  refine (tickEnd_eq_of_slots f fun j => ?_).trans hbegin
  by_cases hj : j = k
  · subst hj
    rw [(taskSlot_tickAt s j).2 (Nat.not_le.2 hundue)]
  · exact hother j hj _

/-- Settles O40: `tickEnd_keeps` for the registers of each writer. -/
theorem undueTaskIsUntouched : Obligations.UndueTaskIsUntouched := by
  intro s t h
  obtain rfl := eq_tickEnd h
  exact ⟨tickEnd_keeps State.inputRegs .inp (fun _ hj u => taskSlot_inputRegs u hj) rfl,
    tickEnd_keeps State.motorRegs .mot (fun _ hj u => taskSlot_motorRegs u hj) rfl,
    tickEnd_keeps State.oscillatorRegs .osc (fun _ hj u => taskSlot_oscillatorRegs u hj) rfl,
    tickEnd_keeps State.displayRegs .disp (fun _ hj u => taskSlot_displayRegs u hj) rfl,
    tickEnd_keeps State.composerRegs .out (fun _ hj u => taskSlot_composerRegs u hj) rfl⟩

end Sys2Proof.Machine
end

section
/-! PROOF. The tick transaction from outside (R87, R101, R135, R141, R183, R207, R235): what stands in the registers at its end,
what it observes of the port, and when each task steps. -/

namespace Sys2Proof.Machine

/-! ### What the slot of a task finds -/

theorem OnlyWrites.cfg {k : Task} {s t : State} (h : OnlyWrites k s t) : t.cfg = s.cfg := congrArg Prod.fst h.outside

/-- A task's step leaves the state register of every other task alone. -/
theorem OnlyWrites.stField {j k : Task} {s t : State} (h : OnlyWrites j s t) (hne : j ≠ k) :
    t.stField k = s.stField k := by
  cases k with
  | inp => exact congrArg (fun x => x.2.2.2.2.2) (h.input hne)
  | mot => exact congrArg (fun x => x.2.2) (h.motor hne)
  | osc => exact congrArg (fun x => x.2.2.2) (h.oscillator hne)
  | disp => exact congrArg Prod.snd (h.display hne)
  | out => exact congrArg Prod.snd (h.composer hne)

theorem OnlyWrites.st {j k : Task} {s t : State} (h : OnlyWrites j s t) (hne : j ≠ k) : t.st k = s.st k := by
  rw [State.st, State.st, h.stField hne, h.cfg]

theorem taskSlot_st {j k : Task} (h : j ≠ k) (s : State) : (taskSlot j s).st k = s.st k :=
  taskSlot_keeps (fun u => u.st k) j ((taskStep_onlyWrites j s).st h) fun _ => by cases k <;> rfl

theorem tickBegin_st (s : State) (k : Task) : (tickBegin s).st k = s.st k := by cases k <;> rfl

/-- Each task finds its own state register as it was before the transaction. -/
theorem tickAt_st (s : State) (k : Task) : (tickAt s k).st k = s.st k := by
  cases k <;> simp [tickAt, taskSlot_st, tickBegin_st]

/-- A task of period 1 makes its step in every transaction, in the state its slot finds. -/
theorem taskSlot_of_period_one {s : State} {k : Task} (hwf : s.cfg.WellFormed) (hp : s.cfg.period.get k = 1)
    (h : s.elapsed.get k = 0) : taskSlot k (tickAt s k) = (taskStep k (tickAt s k)).clearElapsed k := by
  have hdue := due_of_period_one hwf hp h
  rw [← tickAt_elapsed, ← tickAt_cfg s k] at hdue
  exact taskSlot_due hdue

/-! ### The registers at the end -/

section Regs

variable {s t : State}

theorem power_of_inputRegs (h : t.inputRegs = s.inputRegs) : t.power = s.power := congrArg Prod.fst h

theorem oscillating_of_inputRegs (h : t.inputRegs = s.inputRegs) : t.oscillating = s.oscillating :=
  congrArg (fun x => x.2.1) h

theorem motorEnabled_of_motorRegs (h : t.motorRegs = s.motorRegs) : t.motorEnabled = s.motorEnabled :=
  congrArg (fun x => x.2.1) h

theorem phaseElapsed_of_oscillatorRegs (h : t.oscillatorRegs = s.oscillatorRegs) : t.phaseElapsed = s.phaseElapsed :=
  congrArg Prod.fst h

theorem servoPulseLevel_of_oscillatorRegs (h : t.oscillatorRegs = s.oscillatorRegs) :
    t.servoPulseLevel = s.servoPulseLevel :=
  congrArg (fun x => x.2.2.1) h

end Regs

/-- No slot after that of task 0 writes the registers of the Input Interpreter. -/
theorem tickEnd_inputRegs (s : State) {k : Task} (hk : k ≠ .inp) : (tickEnd s).inputRegs = (tickAt s k).inputRegs := by
  cases k
  case inp => exact absurd rfl hk
  all_goals simp only [tickEnd, tickAt, taskSlot_inputRegs, ne_eq, reduceCtorEq, not_false_eq_true]

theorem tickEnd_motorRegs (s : State) : (tickEnd s).motorRegs = (taskSlot .mot (tickAt s .mot)).motorRegs := by
  simp only [tickEnd, tickAt, taskSlot_motorRegs, ne_eq, reduceCtorEq, not_false_eq_true]

theorem tickEnd_oscillatorRegs (s : State) :
    (tickEnd s).oscillatorRegs = (taskSlot .osc (tickAt s .osc)).oscillatorRegs := by
  simp only [tickEnd, tickAt, taskSlot_oscillatorRegs, ne_eq, reduceCtorEq, not_false_eq_true]

/-- Settles O42: the Output Composer's slot is the last, so the word it composes is of the registers at the end. -/
theorem portShowsEndOfTransaction : Obligations.PortShowsEndOfTransaction := by
  intro s t hwf hp he hst h
  obtain rfl := eq_tickEnd h
  obtain ⟨st, hst⟩ := Option.ne_none_iff_exists'.1 hst
  have hstep : taskStep .out (tickAt s .out) = outStepFrom st (tickAt s .out) := by
    simp only [taskStep, tickAt_st, hst]
  have hdir : (tickAt s .out).cfg.dirCode ≤ 3 := by rw [tickAt_cfg]; exact hwf.direction
  rw [tickEnd, taskSlot_of_period_one (k := .out) hwf hp he, hstep, outStepFrom_eq]
  generalize tickAt s .out = u at hdir
  obtain ⟨h0, h1, h2, h3, hd, hz⟩ := compose_bits u
  exact ⟨h0, h1, h2, h3, hd hdir, hz⟩

/-- Settles O43: `power` at the end is what the motor's slot read. -/
theorem motorOffAtEndOfTransaction : Obligations.MotorOffAtEndOfTransaction := by
  intro s t hwf hp he hst h hpow
  obtain rfl := eq_tickEnd h
  obtain ⟨st, hst⟩ := Option.ne_none_iff_exists'.1 hst
  have hstep : taskStep .mot (tickAt s .mot) = motStepFrom st (tickAt s .mot) := by
    simp only [taskStep, tickAt_st, hst]
  rw [power_of_inputRegs (tickEnd_inputRegs s (k := .mot) (by decide))] at hpow
  rw [motorEnabled_of_motorRegs (tickEnd_motorRegs s), taskSlot_of_period_one (k := .mot) hwf hp he, hstep,
    motStepFrom_enters_off (motTransition_power_off st hpow)]
  rfl

/-- Settles O44: `oscillating` at the end is what the Oscillator's slot read. -/
theorem servoLowAtEndOfTransaction : Obligations.ServoLowAtEndOfTransaction := by
  intro s t hwf hp he hst h hosc
  obtain rfl := eq_tickEnd h
  obtain ⟨st, hst⟩ := Option.ne_none_iff_exists'.1 hst
  have hstep : taskStep .osc (tickAt s .osc) = oscStepFrom st (tickAt s .osc) :=
    taskStep_osc_of_some (by rw [tickAt_st, hst])
  rw [oscillating_of_inputRegs (tickEnd_inputRegs s (k := .osc) (by decide))] at hosc
  rw [servoPulseLevel_of_oscillatorRegs (tickEnd_oscillatorRegs s), taskSlot_of_period_one (k := .osc) hwf hp he, hstep,
    oscStepFrom_enters_off (oscTransition_stopped st hosc)]
  rfl

/-! ### The byte on the port (R87, R101) -/

section Port

variable (s : State) (p : Byte)

theorem presentPin_st (k : Task) : (s.presentPin p).st k = s.st k := by cases k <;> rfl

theorem inStepFrom_presentPin (st : InState) (r : Nibble) :
    inStepFrom st r (s.presentPin p) = (inStepFrom st r s).presentPin p := by
  have htrans : inTransition st ((s.presentPin p).snapshot r) = inTransition st (s.snapshot r) := by cases st <;> rfl
  rw [inStepFrom_eq, inStepFrom_eq, htrans]
  rfl

theorem motStepFrom_presentPin (st : MotState) :
    motStepFrom st (s.presentPin p) = (motStepFrom st s).presentPin p := by
  have htrans : motTransition st (s.presentPin p) = motTransition st s := by cases st <;> rfl
  rw [motStepFrom_eq, motStepFrom_eq, htrans]
  rfl

theorem oscStepFrom_presentPin (st : OscState) :
    oscStepFrom st (s.presentPin p) = (oscStepFrom st s).presentPin p := by
  have htrans : oscTransition st (s.presentPin p) = oscTransition st s := by cases st <;> rfl
  rw [oscStepFrom_eq, oscStepFrom_eq, htrans]
  rfl

theorem dispStepFrom_presentPin (st : DispState) :
    dispStepFrom st (s.presentPin p) = (dispStepFrom st s).presentPin p := by
  have htrans : dispTransition st (s.presentPin p) = dispTransition st s := by cases st <;> rfl
  rw [dispStepFrom_eq, dispStepFrom_eq, htrans]
  rfl

theorem outStepFrom_presentPin (st : OutState) :
    outStepFrom st (s.presentPin p) = (outStepFrom st s).presentPin p := by
  rw [outStepFrom_eq, outStepFrom_eq]
  rfl

/-- R101: task 0 sees of the byte only what `rawOfPin` keeps of it, and the other tasks see nothing. -/
theorem taskStep_presentPin {k : Task} (h : k = .inp → rawOfPin p = rawOfPin s.pinIn) :
    taskStep k (s.presentPin p) = (taskStep k s).presentPin p := by
  cases k with
  | inp =>
    have hsample : (s.presentPin p).samplePin = s.samplePin := h rfl
    simp only [taskStep, presentPin_st, hsample]
    cases InState.ofCode (s.st .inp) with
    | none => rfl
    | some st => exact inStepFrom_presentPin s p st _
  | mot =>
    simp only [taskStep, presentPin_st]
    cases MotState.ofCode (s.st .mot) with
    | none => rfl
    | some st => exact motStepFrom_presentPin s p st
  | osc =>
    simp only [taskStep, presentPin_st]
    cases OscState.ofCode (s.st .osc) with
    | none => rfl
    | some st => exact oscStepFrom_presentPin s p st
  | disp =>
    simp only [taskStep, presentPin_st]
    cases DispState.ofCode (s.st .disp) with
    | none => rfl
    | some st => exact dispStepFrom_presentPin s p st
  | out =>
    simp only [taskStep, presentPin_st]
    cases OutState.ofCode (s.st .out) with
    | none => rfl
    | some st => exact outStepFrom_presentPin s p st

theorem taskSlot_presentPin {k : Task}
    (h : k = .inp → s.cfg.period.get k ≤ s.elapsed.get k → rawOfPin p = rawOfPin s.pinIn) :
    taskSlot k (s.presentPin p) = (taskSlot k s).presentPin p := by
  by_cases hdue : s.cfg.period.get k ≤ s.elapsed.get k
  · rw [taskSlot_due hdue, taskSlot_due (s := s.presentPin p) hdue, taskStep_presentPin s p fun hk => h hk hdue]
    rfl
  · rw [taskSlot_not_due (Nat.not_le.1 hdue), taskSlot_not_due (s := s.presentPin p) (Nat.not_le.1 hdue)]

/-- The byte goes through the whole transaction unobserved, if task 0 does not step or its snapshot is the same. -/
theorem tickEnd_presentPin
    (h : s.cfg.period.inp ≤ incr s.cfg.elapsedW s.elapsed.inp → rawOfPin p = rawOfPin s.pinIn) :
    tickEnd (s.presentPin p) = (tickEnd s).presentPin p := by
  have hbegin : tickBegin (s.presentPin p) = (tickBegin s).presentPin p := rfl
  simp only [tickEnd, tickAt, hbegin]
  rw [taskSlot_presentPin (k := .inp) (tickBegin s) p fun _ => h]
  rw [taskSlot_presentPin (k := .mot) _ p nofun, taskSlot_presentPin (k := .osc) _ p nofun,
    taskSlot_presentPin (k := .disp) _ p nofun, taskSlot_presentPin (k := .out) _ p nofun]

end Port

/-- Settles O45: task 0 does not step. -/
theorem unsampledPortIsNotObserved : Obligations.UnsampledPortIsNotObserved := by
  intro s t p hlt h
  obtain rfl := eq_tickEnd h
  rw [exec_schedTick]
  exact congrArg Host.Outcome.next (tickEnd_presentPin s p fun hle => absurd hlt (Nat.not_lt.2 hle))

/-- Settles O46: the snapshot is a function of the low nibble. -/
theorem upperPortBitsAreNotObserved : Obligations.UpperPortBitsAreNotObserved := by
  intro s t p hp h
  obtain rfl := eq_tickEnd h
  rw [exec_schedTick]
  exact congrArg Host.Outcome.next (tickEnd_presentPin s p fun _ => rawOfPin_of_low_nibble hp)

/-! ### When each task steps (R141) -/

/-- Counting modulo a period: the count reaches the period exactly when the number of counts is a multiple of it. -/
theorem mod_succ_of_period {n p : Nat} (hp : 1 ≤ p) :
    ((n + 1) % p = 0 ↔ p ≤ n % p + 1) ∧ (n + 1) % p = if p ≤ n % p + 1 then 0 else n % p + 1 := by
  have hlt : n % p < p := Nat.mod_lt n hp
  have hmod : (n + 1) % p = (n % p + 1) % p := (Nat.mod_add_mod n p 1).symm
  obtain hlast | hmore : n % p + 1 = p ∨ n % p + 1 < p := by omega
  · rw [hmod, hlast, Nat.mod_self]
    simp
  · rw [hmod, Nat.mod_eq_of_lt hmore, if_neg (Nat.not_le.2 hmore)]
    omega

/-- A counter in its range is incremented without a wrap. -/
theorem incr_elapsed {c : Config} (hwf : c.WellFormed) (k : Task) (n : Nat) :
    incr c.elapsedW (n % c.period.get k) = n % c.period.get k + 1 := by
  obtain ⟨hone, hfit⟩ := hwf.periods k
  have hlt : n % c.period.get k < c.period.get k := Nat.mod_lt n hone
  exact incr_of_lt (by omega)

/-- The counters after `n` transactions, by induction on `n`. -/
theorem iterate_schedTick {s : State} (hwf : s.cfg.WellFormed) (h0 : ∀ k : Task, s.elapsed.get k = 0) (n : Nat) :
    ∃ t, iterate (exec .schedTick) n s = .next t ∧ t.cfg = s.cfg ∧
      ∀ k : Task, t.elapsed.get k = n % s.cfg.period.get k := by
  induction n with
  | zero => exact ⟨s, rfl, rfl, fun k => by rw [h0 k, Nat.zero_mod]⟩
  | succ n ih =>
    obtain ⟨t, ht, hcfg, he⟩ := ih
    refine ⟨tickEnd t, ?_, ?_, fun k => ?_⟩
    · rw [iterate_succ n ht, exec_schedTick]
    · rw [tickEnd_cfg, hcfg]
    · rw [tickEnd_elapsed, hcfg, he k, incr_elapsed hwf, ← (mod_succ_of_period (hwf.periods k).1).2]

/-- Settles O47. -/
theorem stepTimesFollowPeriods : Obligations.StepTimesFollowPeriods := by
  intro s n hwf h0
  obtain ⟨t, ht, hcfg, he⟩ := iterate_schedTick hwf h0 n
  refine ⟨t, ht, hcfg, fun k => ⟨he k, ?_⟩⟩
  have hincr := incr_elapsed hwf k n
  rw [incr] at hincr
  rw [he k, hincr]
  exact (mod_succ_of_period (hwf.periods k).1).1

end Sys2Proof.Machine
end

section
/-! PROOF. The machine (R7, R9, R131, R132, R240 to R280): which move a step makes, the core's loop and its boot sequence, the
moves of the agents outside, and what no step changes. -/

namespace Sys2Proof.Machine

/-! ### Which move a step makes -/

section Step

variable {s : State} (hwf : s.cfg.WellFormed)

include hwf

theorem step_of_nil (ha : s.agenda = []) : step s = coreMove s := by
  simp only [step, nextMove, if_pos hwf, ha]

theorem step_of_cons {m : Move} {rest : List Move} (ha : s.agenda = m :: rest) :
    step s = makeMove m { s with agenda := rest } := by
  simp only [step, nextMove, if_pos hwf, ha]

end Step

/-- Settles O57. -/
theorem illFormedConfigurationIsRefused : Obligations.IllFormedConfigurationIsRefused :=
  fun _ h => if_neg h

/-- Settles O52. -/
theorem presentingAByteChangesOnlyThePort : Obligations.PresentingAByteChangesOnlyThePort :=
  fun _ _ _ hwf ha => step_of_cons hwf ha

/-! ### The core's loop (R131, R132) -/

theorem coreMove_of_decode {s : State} {i : Instr} (hb : s.boot = .running)
    (hd : decode s.cfg .event s.tickFlag.toNat = .instr i) : coreMove s = exec i s := by
  simp only [coreMove, hb, State.fetch, hd]

/-- The pseudo-format `EVENT` has one instruction. -/
theorem eq_schedTick_of_decode_event {c : Config} {w : Nat} {i : Instr} (h : decode c .event w = .instr i) :
    i = .schedTick := by
  simp only [decode, decodeEvent] at h
  split at h
  · cases h; rfl
  · cases h

/-- Settles O48. -/
theorem stepRunsTheFetchedInstruction : Obligations.StepRunsTheFetchedInstruction :=
  fun _ _ hwf hb hd => ⟨fun ha => (step_of_nil hwf ha).trans (coreMove_of_decode hb hd),
    fun _ ha => (step_of_cons hwf ha).trans (coreMove_of_decode hb hd), eq_schedTick_of_decode_event hd⟩

theorem coreMove_waits {s : State} (hb : s.boot = .running) (hf : s.tickFlag = false) : coreMove s = .next s := by
  obtain ⟨h, -⟩ | ⟨h, -⟩ | ⟨-, h, -⟩ | ⟨-, -, h⟩ := coreMove_cases s
  · rw [hb] at h; cases h
  · rw [hb] at h; cases h
  · rw [hf] at h; cases h
  · exact h

theorem coreMove_ticks {s : State} (hb : s.boot = .running) (hf : s.tickFlag = true) :
    coreMove s = .next (tickEnd s) := by
  rw [coreMove_of_decode hb (i := .schedTick) (by rw [hf]; rfl), exec_schedTick]

theorem run_succ_of_step (M : Host.Core) {s t : M.State} (h : M.step s = .next t) (n : Nat) :
    M.run (n + 1) s = M.run n t := by
  simp only [Host.Core.run, h]

/-- A run of the machine begins with its first step. -/
theorem run_succ {s t : State} (h : step s = .next t) (n : Nat) : core.run (n + 1) s = core.run n t :=
  run_succ_of_step core h n

/-- Without a tick the core stands still for any number of steps. -/
theorem run_waits {s : State} (hwf : s.cfg.WellFormed) (hb : s.boot = .running) (ha : s.agenda = [])
    (hf : s.tickFlag = false) (n : Nat) : core.run n s = .next s := by
  induction n with
  | zero => rfl
  | succ n ih => exact (run_succ ((step_of_nil hwf ha).trans (coreMove_waits hb hf)) n).trans ih

/-- Settles O50. -/
theorem coreWaitsForTheTick : Obligations.CoreWaitsForTheTick :=
  fun s hwf hb ha => ⟨run_waits hwf hb ha, fun hf =>
    ⟨tickEnd s, (step_of_nil hwf ha).trans (coreMove_ticks hb hf), exec_schedTick s, tickEnd_tickFlag s⟩⟩

/-! ### The dispatch of a task (R134, R137) -/

/-- A task runs the step that its state register selects (R118). -/
theorem runTask_of_stateInstr {k : Task} {s : State} {i : Instr} (h : stateInstr k (s.st k) = some i) :
    runTask k s = exec i s := by
  cases k <;> simp only [stateInstr, Option.map_eq_some_iff] at h <;> obtain ⟨st, hst, rfl⟩ := h <;>
    simp only [runTask_eq, taskStep, hst]
  case inp => exact (exec_inState_instr st s).symm
  case mot => exact (exec_motState_instr st s).symm
  case osc => exact (exec_oscState_instr st s).symm
  case disp => exact (exec_dispState_instr st s).symm
  case out => exact (exec_outState_instr st s).symm

theorem stateInstr_of_decode {s : State} {k : Task} {i : Instr} (h : decode s.cfg (.state8 k) (s.st k) = .instr i) :
    stateInstr k (s.st k) = some i := by
  simp only [decode, decodeState8, Nat.mod_eq_of_lt (State.st_lt s k)] at h
  split at h
  case h_1 j hj => cases h; exact hj
  case h_2 => cases h

/-- Settles O49. -/
theorem taskRunsTheDecodedStep : Obligations.TaskRunsTheDecodedStep := by
  intro s k i hd
  have hrun := runTask_of_stateInstr (stateInstr_of_decode hd)
  refine ⟨hrun, fun hdue t ht => ?_, fun hlt => ?_⟩
  · rw [← hrun, runTask_eq] at ht
    cases ht
    rw [dispatchTask_eq, taskSlot_due hdue]
    rfl
  · rw [dispatchTask_eq, taskSlot_not_due hlt]

/-! ### The Tick Source (R46, R252, R280) -/

/-- What a listed tick does: the flag of a started Tick Source is set. -/
theorem step_tick {s : State} {rest : List Move} (hwf : s.cfg.WellFormed) (ha : s.agenda = .tick :: rest) :
    step s = .next { s with tickFlag := s.tickFlag || s.tickStarted, agenda := rest } :=
  step_of_cons hwf ha

theorem step_tick_started {s : State} {rest : List Move} (hwf : s.cfg.WellFormed) (ha : s.agenda = .tick :: rest)
    (hst : s.tickStarted = true) : step s = .next { s with tickFlag := true, agenda := rest } := by
  rw [step_tick hwf ha, hst, Bool.or_true]

/-- Settles O51: the flag is set already when a second tick sets it. -/
theorem lateTickIsLost : Obligations.LateTickIsLost := by
  refine fun s rest hwf => ⟨step_tick_started hwf, fun ha hst => ?_, fun ha hst => ?_⟩
  · have hsecond : step { s with tickFlag := true, agenda := .tick :: rest } =
        .next { s with tickFlag := true, agenda := rest } :=
      step_tick_started (s := { s with tickFlag := true, agenda := .tick :: rest }) hwf rfl hst
    exact (run_succ (step_tick_started hwf ha hst) 1).trans (run_succ hsecond 0)
  · rw [step_tick hwf ha, hst, Bool.or_false]

/-! ### Boot and reset (R60, R270 to R273) -/

theorem step_bootConfigure {s : State} (hwf : s.cfg.WellFormed) (ha : s.agenda = []) (hb : s.boot = .configure) :
    step s = .next { s with tickPeriod := Config.tickPeriodUnits, boot := .start } := by
  rw [step_of_nil hwf ha]
  simp only [coreMove, hb]
  rfl

theorem step_bootStart {s : State} (hwf : s.cfg.WellFormed) (ha : s.agenda = []) (hb : s.boot = .start) :
    step s = .next { s with tickStarted := true, boot := .running } := by
  rw [step_of_nil hwf ha]
  simp only [coreMove, hb]
  rfl

theorem decided_wellFormed : Config.decided.WellFormed := by decide

/-- Settles O53: two boot operations, then the core waits. -/
theorem bootConfiguresThenStarts : Obligations.BootConfiguresThenStarts := by
  refine ⟨fun s => step_bootConfigure, fun s => step_bootStart, fun s hwf ha hb hf n => ?_, fun c p ms => ⟨rfl, rfl⟩,
    decided_wellFormed, rfl, rfl⟩
  have hstart : step { s with tickPeriod := Config.tickPeriodUnits, boot := .start } =
      .next { s with tickPeriod := Config.tickPeriodUnits, tickStarted := true, boot := .running } :=
    step_bootStart (s := { s with tickPeriod := Config.tickPeriodUnits, boot := .start }) hwf ha rfl
  have hwait : core.run n { s with tickPeriod := Config.tickPeriodUnits, tickStarted := true, boot := .running } =
      .next { s with tickPeriod := Config.tickPeriodUnits, tickStarted := true, boot := .running } :=
    run_waits (s := { s with tickPeriod := Config.tickPeriodUnits, tickStarted := true, boot := .running })
      hwf rfl ha hf n
  exact (run_succ (step_bootConfigure hwf ha hb) (n + 1)).trans ((run_succ hstart n).trans hwait)

theorem resetWith_st (c : Config) (p : Byte) (ms : List Move) (k : Task) : (State.resetWith c p ms).st k = 0x00 := by
  cases k <;> exact Nat.zero_mod _

theorem resetWith_elapsed (c : Config) (p : Byte) (ms : List Move) (k : Task) :
    (State.resetWith c p ms).elapsed.get k = 0 := by
  cases k <;> rfl

/-- Settles O54: a listed reset answers `State.resetWith`. -/
theorem resetRestoresEveryElement : Obligations.ResetRestoresEveryElement :=
  fun s rest hwf ha => ⟨State.resetWith s.cfg s.pinIn rest, step_of_cons hwf ha, rfl, rfl, rfl, rfl, rfl, rfl, rfl, rfl,
    rfl, rfl, rfl, fun k => ⟨resetWith_st _ _ _ k, resetWith_elapsed _ _ _ k⟩, rfl, rfl, rfl, rfl, rfl, rfl⟩

/-- Settles O55: the fields of `State.reset`. -/
theorem resetStateValues : Obligations.ResetStateValues := ⟨rfl, rfl, rfl, rfl, rfl, rfl⟩

/-! ### No step stops (R240), and no step changes a constant (R50) -/

theorem coreMove_goes_on (s : State) : ∃ t, coreMove s = .next t := by
  obtain ⟨-, h⟩ | ⟨-, h⟩ | ⟨-, -, h⟩ | ⟨-, -, h⟩ := coreMove_cases s
  · exact ⟨_, h⟩
  · exact ⟨_, h⟩
  · exact ⟨_, h.trans (exec_schedTick s)⟩
  · exact ⟨_, h⟩

/-- Settles O56: the core's move goes on, and the other agents' moves always do. -/
theorem noStepStops : Obligations.NoStepStops := by
  intro s hwf
  cases ha : s.agenda with
  | nil =>
    rw [step_of_nil hwf ha]
    exact coreMove_goes_on s
  | cons m rest =>
    rw [step_of_cons hwf ha]
    cases m with
    | core => exact coreMove_goes_on _
    | tick => exact ⟨_, rfl⟩
    | present b => exact ⟨_, rfl⟩
    | reset => exact ⟨_, rfl⟩

/-- The core's move keeps the constants, and the period but for the boot operation `configure`. -/
theorem coreMove_constants {s t : State} (h : coreMove s = .next t) :
    t.cfg = s.cfg ∧ (t.tickPeriod = s.tickPeriod ∨ s.boot = .configure) := by
  obtain ⟨hb, hc⟩ | ⟨-, hc⟩ | ⟨-, -, hc⟩ | ⟨-, -, hc⟩ := coreMove_cases s <;> rw [hc] at h
  · cases h
    exact ⟨rfl, .inr hb⟩
  · cases h
    exact ⟨rfl, .inl rfl⟩
  · obtain rfl := eq_tickEnd h
    exact ⟨tickEnd_cfg s, .inl (congrArg (fun x => x.2.2.1) (tickEnd_outside s))⟩
  · cases h
    exact ⟨rfl, .inl rfl⟩

/-- Settles O60: by the move that the step makes. -/
theorem constantsNeverChange : Obligations.ConstantsNeverChange := by
  intro s t h
  obtain ⟨-, ⟨ha, hc⟩ | ⟨m, rest, ha, ⟨rfl, hc⟩ | ⟨-, rfl⟩ | ⟨b, -, rfl⟩ | ⟨rfl, rfl⟩⟩⟩ := step_cases h
  · obtain ⟨hcfg, hper⟩ := coreMove_constants hc
    exact ⟨hcfg, hper.imp_right fun hb => .inl ⟨hb, .inl ha⟩⟩
  · obtain ⟨hcfg, hper⟩ := coreMove_constants hc
    exact ⟨hcfg, hper.imp_right fun hb => .inl ⟨hb, .inr ⟨rest, ha⟩⟩⟩
  · exact ⟨rfl, .inl rfl⟩
  · exact ⟨rfl, .inl rfl⟩
  · exact ⟨rfl, .inr (.inr ⟨rest, ha⟩)⟩

end Sys2Proof.Machine
end

section
/-! PROOF. The invariant of a run (R11, R26, R28, R29, R40, R45, R111, R113, R205, R252): it holds after a reset, and every step
of every agent keeps it. The part about the registers that the tasks write is kept by each task's step on its own. -/

namespace Sys2Proof.Machine

/-! ### The part of the invariant that the tasks keep -/

/-- The configuration, the codes and the ranges of the registers that the tasks write. -/
structure RegsOk (s : State) : Prop where
  wellFormed : s.cfg.WellFormed
  fits : ∀ k, s.stField k < 2 ^ s.cfg.stateW
  recognised : ∀ k, stateInstr k (s.st k) ≠ none
  duty : s.dutyCounter ≤ s.cfg.dutyTable.d3
  pulse : s.pulseCounter < s.cfg.pulsePeriod
  phase : s.phaseElapsed < 2 ^ s.cfg.phaseW
  port : s.ReservedBitsZero

theorem recognisedCodes_iff (s : State) : s.RecognisedCodes ↔ ∀ k, stateInstr k (s.st k) ≠ none := by
  constructor
  · rintro ⟨hin, hmot, hosc, hdisp, hout⟩ k
    cases k <;> simpa only [stateInstr, ne_eq, Option.map_eq_none_iff]
  · intro h
    have hin := h .inp
    have hmot := h .mot
    have hosc := h .osc
    have hdisp := h .disp
    have hout := h .out
    simp only [stateInstr, ne_eq, Option.map_eq_none_iff] at hin hmot hosc hdisp hout
    exact ⟨hin, hmot, hosc, hdisp, hout⟩

/-- The invariant as the tasks' part, the elapsed counters and the boot sequence. -/
theorem inv_iff (s : State) :
    s.Inv ↔ RegsOk s ∧ (∀ k, s.elapsed.get k < s.cfg.period.get k) ∧ s.BootConsistent := by
  constructor
  · rintro ⟨hwf, hcodes, ⟨hin, hmot, hosc, hdisp, hout⟩, ⟨⟨ein, emot, eosc, edisp, eout⟩, hduty, hpulse, hphase⟩, hboot,
      hport⟩
    exact ⟨⟨hwf, fun k => by cases k <;> assumption, (recognisedCodes_iff s).1 hcodes, hduty, hpulse, hphase, hport⟩,
      fun k => by cases k <;> assumption, hboot⟩
  · rintro ⟨h, he, hboot⟩
    exact ⟨h.wellFormed, (recognisedCodes_iff s).2 h.recognised,
      ⟨h.fits .inp, h.fits .mot, h.fits .osc, h.fits .disp, h.fits .out⟩,
      ⟨⟨he .inp, he .mot, he .osc, he .disp, he .out⟩, h.duty, h.pulse, h.phase⟩, hboot, h.port⟩

/-- All that `RegsOk` and the bound on the outer clock depend on. -/
def State.taskRegs (s : State) :
    Config × (Bool × Bool × Bool × Fin NSPEED × Nibble × Nat) × (Nat × Bool × Nat) × (Nat × Nat × Bool × Nat) ×
      (BitVec 1 × Nat) × (Byte × Nat) :=
  (s.cfg, s.inputRegs, s.motorRegs, s.oscillatorRegs, s.displayRegs, s.composerRegs)

/-- The fields behind `State.taskRegs` that the invariant reads. -/
theorem taskRegs_fields {s t : State} (h : t.taskRegs = s.taskRegs) :
    t.cfg = s.cfg ∧ (∀ k, t.stField k = s.stField k) ∧ t.dutyCounter = s.dutyCounter ∧
      t.pulseCounter = s.pulseCounter ∧ t.phaseElapsed = s.phaseElapsed ∧ t.portOut = s.portOut := by
  simp only [State.taskRegs, State.inputRegs, State.motorRegs, State.oscillatorRegs, State.displayRegs,
    State.composerRegs, Prod.mk.injEq] at h
  obtain ⟨hcfg, ⟨-, -, -, -, -, hin⟩, ⟨hduty, -, hmot⟩, ⟨hphase, hpulse, -, hosc⟩, ⟨-, hdisp⟩, hport, hout⟩ := h
  exact ⟨hcfg, fun k => by cases k <;> assumption, hduty, hpulse, hphase, hport⟩

theorem RegsOk.congr {s t : State} (h : RegsOk s) (he : t.taskRegs = s.taskRegs) : RegsOk t := by
  obtain ⟨hcfg, hst, hduty, hpulse, hphase, hport⟩ := taskRegs_fields he
  have hread (k : Task) : t.st k = s.st k := by rw [State.st, State.st, hst, hcfg]
  refine ⟨?_, fun k => ?_, fun k => ?_, ?_, ?_, ?_, ?_⟩
  · rw [hcfg]; exact h.wellFormed
  · rw [hcfg, hst]; exact h.fits k
  · rw [hread]; exact h.recognised k
  · rw [hcfg, hduty]; exact h.duty
  · rw [hcfg, hpulse]; exact h.pulse
  · rw [hcfg, hphase]; exact h.phase
  · rw [State.ReservedBitsZero, hport]; exact h.port

/-! ### Each task's step keeps its own ranges -/

theorem oscStepFrom_ranges (st : OscState) {s : State} (h : RegsOk s) :
    (oscStepFrom st s).pulseCounter < s.cfg.pulsePeriod ∧ (oscStepFrom st s).phaseElapsed < 2 ^ s.cfg.phaseW := by
  have hnext := nextPulse_lt h.wellFormed s.pulseCounter
  cases he : oscTransition st s with
  | start => exact absurd he (oscTransition_ne_start st s)
  | off => rw [oscStepFrom_enters_off he]; exact ⟨h.pulse, h.phase⟩
  | sweepLeft => rw [oscStepFrom_enters_sweepLeft he]; exact ⟨hnext, incr_lt _ _⟩
  | sweepRight => rw [oscStepFrom_enters_sweepRight he]; exact ⟨hnext, incr_lt _ _⟩
  | dwell =>
    by_cases hst : st = .sweepRight
    · subst hst
      rw [oscStepFrom_sweepRight_enters_dwell he]
      exact ⟨h.pulse, incr_lt _ _⟩
    · rw [oscStepFrom_enters_dwell he hst]
      exact ⟨h.pulse, incr_lt _ _⟩

theorem taskStep_osc_ranges {s : State} (h : RegsOk s) :
    (taskStep .osc s).pulseCounter < s.cfg.pulsePeriod ∧ (taskStep .osc s).phaseElapsed < 2 ^ s.cfg.phaseW := by
  cases hst : OscState.ofCode (s.st .osc) with
  | none => rw [taskStep_osc_of_none hst]; exact ⟨h.pulse, h.phase⟩
  | some st => rw [taskStep_osc_of_some hst]; exact oscStepFrom_ranges st h

theorem taskStep_out_port {s : State} (h : RegsOk s) : (taskStep .out s).ReservedBitsZero := by
  simp only [taskStep]
  cases OutState.ofCode (s.st .out) with
  | none => exact h.port
  | some st =>
    obtain ⟨-, -, -, -, -, hz⟩ := compose_bits s
    simp only [outStepFrom_eq]
    exact hz

/-- Each range is kept by the step of the one task that writes the register, and by the frame in every other step. -/
theorem taskStep_regsOk (k : Task) {s : State} (h : RegsOk s) : RegsOk (taskStep k s) := by
  have hw := taskStep_onlyWrites k s
  obtain ⟨hfits, -, hrecognised⟩ := (taskStep_entersRecognised h.wellFormed.stateWidth (h.recognised k)).st
  refine ⟨?_, fun j => ?_, fun j => ?_, ?_, ?_, ?_, ?_⟩
  · rw [hw.cfg]; exact h.wellFormed
  · by_cases hj : k = j
    · subst hj; exact hfits
    · rw [hw.stField hj, hw.cfg]; exact h.fits j
  · by_cases hj : k = j
    · subst hj; exact hrecognised
    · rw [hw.st hj]; exact h.recognised j
  · rw [hw.cfg]
    by_cases hk : k = .mot
    · subst hk; exact taskStep_mot_dutyCounter_le h.wellFormed h.duty
    · exact (congrArg Prod.fst (hw.motor hk)).trans_le h.duty
  · rw [hw.cfg]
    by_cases hk : k = .osc
    · subst hk; exact (taskStep_osc_ranges h).1
    · exact (congrArg (fun x => x.2.1) (hw.oscillator hk)).trans_lt h.pulse
  · rw [hw.cfg]
    by_cases hk : k = .osc
    · subst hk; exact (taskStep_osc_ranges h).2
    · exact (phaseElapsed_of_oscillatorRegs (hw.oscillator hk)).trans_lt h.phase
  · by_cases hk : k = .out
    · subst hk; exact taskStep_out_port h
    · have hport : (taskStep k s).portOut = s.portOut := congrArg Prod.fst (hw.composer hk)
      rw [State.ReservedBitsZero, hport]
      exact h.port

theorem taskSlot_regsOk (k : Task) {s : State} (h : RegsOk s) : RegsOk (taskSlot k s) := by
  unfold taskSlot
  split
  · exact (taskStep_regsOk k h).congr rfl
  · exact h

/-! ### The tick transaction -/

theorem tickEnd_regsOk {s : State} (h : RegsOk s) : RegsOk (tickEnd s) :=
  taskSlot_regsOk .out (taskSlot_regsOk .disp (taskSlot_regsOk .osc (taskSlot_regsOk .mot (taskSlot_regsOk .inp
    (h.congr (t := tickBegin s) rfl)))))

theorem tickEnd_bootConsistent {s : State} (h : s.BootConsistent) : (tickEnd s).BootConsistent := by
  have hout := tickEnd_outside s
  simp only [State.outside, Prod.mk.injEq] at hout
  obtain ⟨-, -, -, hstarted, hboot, -⟩ := hout
  rw [State.BootConsistent, hstarted, hboot, tickEnd_tickFlag]
  exact ⟨h.1, nofun⟩

theorem tickEnd_inv {s : State} (h : s.Inv) : (tickEnd s).Inv := by
  obtain ⟨hregs, -, hboot⟩ := (inv_iff s).1 h
  refine (inv_iff _).2 ⟨tickEnd_regsOk hregs, fun k => ?_, tickEnd_bootConsistent hboot⟩
  rw [tickEnd_elapsed, tickEnd_cfg]
  split
  · exact (hregs.wellFormed.periods k).1
  · exact Nat.not_le.1 ‹_›

/-! ### The outer clock over a tick transaction (R205; log entry 8) -/

theorem phaseWithin_congr {s t : State} {m : Nat} (hcfg : t.cfg = s.cfg) (h : t.oscillatorRegs = s.oscillatorRegs) :
    PhaseWithin m t ↔ PhaseWithin m s := by
  have hst : t.st .osc = s.st .osc := by
    have hreg : t.stOsc = s.stOsc := congrArg (fun x => x.2.2.2) h
    rw [State.st, State.st, State.stField, State.stField, hreg, hcfg]
  rw [PhaseWithin, PhaseWithin, hst, phaseElapsed_of_oscillatorRegs h]

/-- The Oscillator's slot finds its registers as they were before the transaction. -/
theorem tickAt_oscillatorRegs (s : State) : (tickAt s .osc).oscillatorRegs = s.oscillatorRegs := by
  simp only [tickAt, taskSlot_oscillatorRegs, ne_eq, reduceCtorEq, not_false_eq_true]
  rfl

/-- The Oscillator's slot keeps the bound, or its task is due and switches a late lap off. -/
theorem taskSlot_osc_phaseWithin {s : State} {m : Nat} (hwf : s.cfg.WellFormed) (hm : s.cfg.sweepRLimit ≤ m + 2)
    (h : PhaseWithin m s) :
    PhaseWithin m (taskSlot .osc s) ∨
      (SwitchedOffAbove m s ∧ (taskSlot .osc s).stOsc = 0x01 ∧ (taskSlot .osc s).phaseElapsed = s.phaseElapsed) := by
  unfold taskSlot
  split
  · obtain hkeep | hlate := taskStep_osc_phaseWithin hwf hm h
    · exact .inl ((phaseWithin_congr rfl rfl).2 hkeep)
    · rw [taskStep_osc_of_switchedOffAbove hlate]
      exact .inr ⟨hlate, rfl, rfl⟩
  · exact .inl h

theorem code_mem_of_phaseAllowance {st : OscState} (h : 0 < phaseAllowance st) : st.code ∈ [0x02, 0x03, 0x04] := by
  cases st
  case start => exact absurd h (by decide)
  case off => exact absurd h (by decide)
  all_goals decide

/-- The one exception to the bound, seen from before the transaction. -/
theorem stoppedLate_of_slot {s : State} (hw : s.cfg.WfStateWidth)
    (hlate : SwitchedOffAbove (s.cfg.sweepRLimit - 2) (tickAt s .osc))
    (hst : (taskSlot .osc (tickAt s .osc)).stOsc = 0x01)
    (hv : (taskSlot .osc (tickAt s .osc)).phaseElapsed = (tickAt s .osc).phaseElapsed) : s.StoppedLate (tickEnd s) := by
  obtain ⟨st, hread, hpos, hoff, habove⟩ := hlate
  rw [tickAt_st] at hread
  have hv0 : (tickAt s .osc).phaseElapsed = s.phaseElapsed := phaseElapsed_of_oscillatorRegs (tickAt_oscillatorRegs s)
  have hregs := tickEnd_oscillatorRegs s
  have hstEnd : (tickEnd s).stOsc = 0x01 := (congrArg (fun x => x.2.2.2) hregs).trans hst
  refine ⟨?_, ?_, ?_, ?_, ?_⟩
  · rw [OscState.eq_code_of_ofCode hread]
    exact code_mem_of_phaseAllowance hpos
  · rw [State.st, State.stField, hstEnd, tickEnd_cfg]
    exact Nat.mod_eq_of_lt (OscState.code_lt hw .off)
  · rw [oscillating_of_inputRegs (tickEnd_inputRegs s (k := .osc) (by decide)), hoff]
  · rw [phaseElapsed_of_oscillatorRegs hregs, hv, hv0]
  · rw [← hv0]; exact habove

/-- R205 over a whole transaction. -/
theorem tickEnd_phaseInRange {s : State} (hwf : s.cfg.WellFormed) (h : s.PhaseInRange) :
    (tickEnd s).PhaseInRange ∨ s.StoppedLate (tickEnd s) := by
  have hcfg := tickAt_cfg s .osc
  rw [phaseInRange_iff hwf.limits, ← phaseWithin_congr hcfg (tickAt_oscillatorRegs s)] at h
  obtain hkeep | ⟨hlate, hst, hv⟩ := taskSlot_osc_phaseWithin (by rw [hcfg]; exact hwf) (by rw [hcfg]; omega) h
  · refine .inl ((phaseInRange_iff (by rw [tickEnd_cfg]; exact hwf.limits)).2 ?_)
    rw [tickEnd_cfg, phaseWithin_congr (by simp) (tickEnd_oscillatorRegs s)]
    exact hkeep
  · exact .inr (stoppedLate_of_slot hwf.stateWidth hlate hst hv)

/-! ### Every move -/

/-- What a step from `s` to `t` keeps. -/
def KeepsInv (s t : State) : Prop :=
  t.Inv ∧ (s.PhaseInRange → t.phaseElapsed ≤ t.cfg.sweepRLimit + 1 ∧ (t.PhaseInRange ∨ s.StoppedLate t))

/-- The bound on the clock itself follows from either outcome: a late stop holds a clock that was in its bound. -/
theorem phaseElapsed_le_of_outcome {s t : State} (hcfg : t.cfg = s.cfg) (h : s.PhaseInRange)
    (ho : t.PhaseInRange ∨ s.StoppedLate t) : t.phaseElapsed ≤ t.cfg.sweepRLimit + 1 := by
  obtain hin | ⟨-, -, -, hheld, -⟩ := ho
  · exact phaseElapsed_le_of_phaseInRange hin
  · rw [hheld, hcfg]
    exact phaseElapsed_le_of_phaseInRange h

/-- A move that writes no register of a task and no counter. -/
theorem keepsInv_of_taskRegs {s t : State} (h : s.Inv) (hregs : t.taskRegs = s.taskRegs) (he : t.elapsed = s.elapsed)
    (hboot : t.BootConsistent) : KeepsInv s t := by
  obtain ⟨hok, hel, -⟩ := (inv_iff s).1 h
  obtain ⟨hcfg, hst, -, -, hv, -⟩ := taskRegs_fields hregs
  refine ⟨(inv_iff t).2 ⟨hok.congr hregs, fun k => by rw [he, hcfg]; exact hel k, hboot⟩, fun hin => ?_⟩
  have hin' : t.PhaseInRange := by
    rw [State.PhaseInRange, State.phaseBound, State.st, hst, hv, hcfg]
    exact hin
  exact ⟨phaseElapsed_le_of_phaseInRange hin', .inl hin'⟩

theorem tickEnd_keepsInv {s : State} (h : s.Inv) : KeepsInv s (tickEnd s) := by
  refine ⟨tickEnd_inv h, fun hin => ?_⟩
  obtain ⟨hregs, -, -⟩ := (inv_iff s).1 h
  have ho := tickEnd_phaseInRange hregs.wellFormed hin
  exact ⟨phaseElapsed_le_of_outcome (tickEnd_cfg s) hin ho, ho⟩

theorem coreMove_keepsInv {s t : State} (h : s.Inv) (hm : coreMove s = .next t) : KeepsInv s t := by
  obtain ⟨-, -, hstarted, hflag⟩ := (inv_iff s).1 h
  obtain ⟨hb, hc⟩ | ⟨hb, hc⟩ | ⟨-, -, hc⟩ | ⟨-, -, hc⟩ := coreMove_cases s <;> rw [hc] at hm
  · cases hm
    have hrest : s.tickStarted = false := by
      rw [← Bool.not_eq_true, hstarted, hb]
      exact nofun
    refine keepsInv_of_taskRegs h rfl rfl ⟨?_, hflag⟩
    change s.tickStarted = true ↔ Boot.start = .running
    simp [hrest]
  · cases hm
    exact keepsInv_of_taskRegs h rfl rfl ⟨⟨fun _ => rfl, fun _ => rfl⟩, fun _ => rfl⟩
  · obtain rfl := eq_tickEnd hm
    exact tickEnd_keepsInv h
  · cases hm
    exact keepsInv_of_taskRegs h rfl rfl ⟨hstarted, hflag⟩

theorem tickArrives_bootConsistent {s : State} (h : s.BootConsistent) : s.tickArrives.BootConsistent := by
  obtain ⟨hstarted, hflag⟩ := h
  refine ⟨hstarted, fun hset => ?_⟩
  obtain hset | hset : s.tickFlag = true ∨ s.tickStarted = true := by simpa using hset
  · exact hflag hset
  · exact hset

/-! ### Reset -/

theorem resetWith_phaseInRange (c : Config) (p : Byte) (ms : List Move) : (State.resetWith c p ms).PhaseInRange :=
  Nat.zero_le _

/-- A reset in a well-formed configuration meets the invariant. -/
theorem resetWith_inv {c : Config} (h : c.WellFormed) (p : Byte) (ms : List Move) : (State.resetWith c p ms).Inv := by
  have hpulse : 0 < c.pulsePeriod := Nat.zero_lt_of_lt (nextPulse_lt h 0)
  have hport : (0x00#8 : Byte).extractLsb' 6 2 = 0#2 := by decide
  refine (inv_iff _).2 ⟨⟨h, fun k => ?_, fun k => ?_, Nat.zero_le _, hpulse, Nat.two_pow_pos _, hport⟩, fun k => ?_,
    ?_⟩
  · cases k <;> exact Nat.two_pow_pos _
  · rw [resetWith_st]
    cases k <;> decide
  · rw [resetWith_elapsed]
    exact (h.periods k).1
  · exact ⟨⟨nofun, nofun⟩, nofun⟩

/-- Settles O58. -/
theorem resetMeetsTheInvariant : Obligations.ResetMeetsTheInvariant :=
  ⟨resetWith_inv decided_wellFormed 0xFF#8 [], resetWith_phaseInRange _ _ _⟩

/-- Settles O59: by the move that the step makes; taking a move off the list changes nothing that the invariant reads. -/
theorem everyStepKeepsTheInvariant : Obligations.EveryStepKeepsTheInvariant := by
  intro s t h hstep
  obtain ⟨-, -, hboot⟩ := (inv_iff s).1 h
  obtain ⟨hwf, ⟨-, hc⟩ | ⟨m, rest, -, ⟨-, hc⟩ | ⟨-, rfl⟩ | ⟨b, -, rfl⟩ | ⟨-, rfl⟩⟩⟩ := step_cases hstep
  · exact coreMove_keepsInv h hc
  · exact coreMove_keepsInv (s := { s with agenda := rest }) h hc
  · exact keepsInv_of_taskRegs h rfl rfl
      (tickArrives_bootConsistent (s := { s with agenda := rest }) hboot)
  · exact keepsInv_of_taskRegs h rfl rfl hboot
  · have hin := resetWith_phaseInRange s.cfg s.pinIn rest
    exact ⟨resetWith_inv hwf s.pinIn rest, fun _ => ⟨phaseElapsed_le_of_phaseInRange hin, .inl hin⟩⟩

end Sys2Proof.Machine
end
